-- ==== Sys2Proof/Word.lean ====
section
/-! DEFINITION. The word types of DSC: a `NUM` as its 64-bit interchange pattern (20_memory.md R61, 40_function_units.md R100),
a 32-bit control word (R9), an 18-bit word address (20_memory.md R72). -/

namespace Sys2Proof

/-- A `NUM`: the IEEE 754 binary64 interchange encoding, bit 63 sign, bits 62:52 exponent, bits 51:0 fraction
(20_memory.md R61). -/
abbrev Num64 := BitVec 64

/-- A 64-bit word as it travels on the port (20_memory.md R61). -/
abbrev Word64 := BitVec 64

/-- A 32-bit unsigned control word (00_scope.md R9). -/
abbrev Word32 := BitVec 32

/-- A word address on the slave port: 18 bits (20_memory.md R72). -/
abbrev Addr := BitVec 18

end Sys2Proof
end

