-- ==== Sys2Proof/Config.lean ====
section
/-! DEFINITION. What one DSC instance fixes for good: the configuration record of 00_scope.md R7, and the one value the spec
leaves entirely free, the noise sequence. `NUM` is binary64 (R100) and is no field. -/

namespace Sys2Proof

/-- One row of `PARAM_TABLE`: the triple `{default, min, max}` of a block parameter (10_state.md R27). -/
structure ParamRange where
  dflt : Num64
  min : Num64
  max : Num64
deriving DecidableEq, Repr

/-- The configuration record (00_scope.md R7). Plain data; a state carries it unchanged for the life of the machine
(DESIGN CHOICE, notes/assumptions/3.md), so a statement about every state is a statement about every record. -/
structure Config where
  /-- `LUT_BITS`: log2 of the sine ROM's full-wave length `N`. -/
  lutBits : Nat
  /-- `HARM_MAX`: number of harmonic slots. -/
  harmMax : Nat
  /-- `DELAY_MAX`: depth of the delay-line memory, in samples. -/
  delayMax : Nat
  /-- `OBUF_DEPTH`: depth of the output buffer. -/
  obufDepth : Nat
  /-- `BLOCK_LEN`: reset value of `BLKLEN` (OPEN). -/
  blockLen : Nat
  /-- `SRATE_RESET`: reset value of `SRATE`. -/
  srateReset : Num64
  /-- `BASE_HZ_RESET`: reset value of `BASEHZ` (OPEN). -/
  baseHzReset : Num64
  /-- `PARAM_TABLE[0..8]` (OPEN). -/
  paramTable : Vector ParamRange 9
  /-- `DITHER_AMP`: amplitude of the block processor's noise dither (OPEN). -/
  ditherAmp : Num64
  /-- `IIR3_CX`: input weight of the fixed 3-tap IIR. -/
  iir3Cx : Num64
  /-- `IIR3_CY1`: weight of the most recent output. -/
  iir3Cy1 : Num64
  /-- `IIR3_CY2`: weight of the output before it. -/
  iir3Cy2 : Num64
  /-- `IIR3_AMP`: the output scale. -/
  iir3Amp : Num64
  /-- `BW_ORDER_MAX`: largest Butterworth order the calculator accepts. -/
  bwOrderMax : Nat
deriving DecidableEq, Repr

/-- FREE VALUE. `NOISE_SRC` before its range is imposed: the spec fixes no generator (00_scope.md R7, 42_primitives.md R143,
"a claim about DSC must hold for every `NOISE_SRC`"). No body: nothing can be proved about its values
(DESIGN CHOICE, notes/assumptions/4.md). `Machine.noise` clips it into `[-1, 1]`, so exactly the sequences R143 admits arise. -/
opaque Config.noiseRaw : Nat → Num64

end Sys2Proof
end

