-- ==== Sys2Proof/Machine/Num.lean ====
section
/-! DEFINITION. `NUM` = IEEE 754 binary64 (40_function_units.md R100 to R104): every operation computes the exact result
as a rational number in units of 2^-1074 (the least subnormal) and rounds it once, to nearest, ties to even. -/

namespace Sys2Proof.F64

/-- The magnitude pattern of an infinity. -/
def infBits : Nat := 0x7FF0000000000000

def posZero : Num64 := 0#64
def one : Num64 := 0x3FF0000000000000#64
def negOne : Num64 := 0xBFF0000000000000#64
def two : Num64 := 0x4000000000000000#64
def half : Num64 := 0x3FE0000000000000#64
def quarter : Num64 := 0x3FD0000000000000#64
def posInf : Num64 := 0x7FF0000000000000#64
def negInf : Num64 := 0xFFF0000000000000#64

/-- The one NaN every operation yields (R101). -/
def qNaN : Num64 := 0x7FF8000000000000#64

/-- Bits 62:0. -/
def mag (x : Num64) : Nat := x.toNat % 2 ^ 63

/-- Bit 63, the sign. -/
def neg (x : Num64) : Bool := decide (2 ^ 63 ≤ x.toNat)

def isNaN (x : Num64) : Bool := decide (infBits < mag x)
def isInf (x : Num64) : Bool := decide (mag x = infBits)
def isZero (x : Num64) : Bool := decide (mag x = 0)

/-- `FINITE(v)` (00_scope.md R11): neither NaN nor an infinity. -/
def isFinite (x : Num64) : Bool := decide (mag x < infBits)

/-- Join a sign and a 63-bit magnitude pattern. -/
def mk (sign : Bool) (m : Nat) : Num64 := BitVec.ofNat 64 (m + if sign then 2 ^ 63 else 0)

/-- Flip the sign bit. -/
def negate (x : Num64) : Num64 := x ^^^ 0x8000000000000000#64

/-- The magnitude of a finite value, in units of 2^-1074: a whole number for every finite binary64. -/
def scaledMag (x : Num64) : Nat :=
  if mag x < 2 ^ 52 then mag x else (mag x % 2 ^ 52 + 2 ^ 52) * 2 ^ (mag x / 2 ^ 52 - 1)

/-- The exact value of a finite `NUM`, in units of 2^-1074. -/
def scaled (x : Num64) : Int := if neg x then -(scaledMag x : Int) else (scaledMag x : Int)

/-- The magnitude pattern nearest to the rational `n / d` (in units of 2^-1074, `d > 0`), ties to even, an infinity on
overflow (R100). `k` is the exponent of the quantum the result is a multiple of; adding `k * 2^52` to the rounded significand
forms the pattern, a carry into the next exponent included. -/
def roundMag (n d : Nat) : Nat :=
  let q := n / d
  let k := if q < 2 ^ 53 then 0 else Nat.log2 q - 52
  let quantum := d * 2 ^ k
  let m := n / quantum
  let r := n % quantum
  let up := if quantum < 2 * r ∨ (quantum = 2 * r ∧ m % 2 = 1) then 1 else 0
  min (k * 2 ^ 52 + (m + up)) infBits

/-- `a + b` (R100, R101). -/
def add (a b : Num64) : Num64 :=
  if isNaN a || isNaN b then qNaN
  else if isInf a then (if isInf b && (neg a != neg b) then qNaN else a)
  else if isInf b then b
  else
    let v := scaled a + scaled b
    if v = 0 then mk (neg a && neg b) 0 else mk (decide (v < 0)) (roundMag v.natAbs 1)

/-- `a - b` (R100, R101): the sum with the sign of `b` flipped. -/
def sub (a b : Num64) : Num64 := add a (negate b)

/-- `a * b` (R100, R101). -/
def mul (a b : Num64) : Num64 :=
  if isNaN a || isNaN b then qNaN
  else if isInf a || isInf b then
    (if isZero a || isZero b then qNaN else mk (neg a != neg b) infBits)
  else mk (neg a != neg b) (roundMag (scaledMag a * scaledMag b) (2 ^ 1074))

/-- `a / b` (R100, R101). -/
def div (a b : Num64) : Num64 :=
  if isNaN a || isNaN b then qNaN
  else if isInf a then (if isInf b then qNaN else mk (neg a != neg b) infBits)
  else if isInf b then mk (neg a != neg b) 0
  else if isZero b then (if isZero a then qNaN else mk (neg a != neg b) infBits)
  else mk (neg a != neg b) (roundMag (scaledMag a * 2 ^ 1074) (scaledMag b))

/-- The order of the non-NaN values: the magnitude pattern, with the sign; both zeros have key 0. -/
def key (x : Num64) : Int := if neg x then -(mag x : Int) else (mag x : Int)

/-- `a < b`, false on NaN (R102). -/
def lt (a b : Num64) : Bool := !isNaN a && !isNaN b && decide (key a < key b)

/-- `a <= b`, false on NaN (R102). -/
def le (a b : Num64) : Bool := !isNaN a && !isNaN b && decide (key a ≤ key b)

/-- `a == b`, false on NaN (R102). -/
def feq (a b : Num64) : Bool := !isNaN a && !isNaN b && decide (key a = key b)

/-- `FLOOR(v)` of a finite `v`: the greatest integer not above it (R104). -/
def floor (x : Num64) : Int := scaled x / 2 ^ 1074

/-- `CEIL(v) = -FLOOR(-v)` (R104). -/
def ceil (x : Num64) : Int := -floor (negate x)

/-- `num(i)`: the `NUM` of an integer, exact for `|i| <= 2^53` (00_scope.md R9). -/
def ofInt (i : Int) : Num64 := mk (decide (i < 0)) (roundMag (i.natAbs * 2 ^ 1074) 1)

/-- `num(n)` of a natural number. -/
def ofNat (n : Nat) : Num64 := mk false (roundMag (n * 2 ^ 1074) 1)

end Sys2Proof.F64
end

