-- ==== Sys2Proof/Syntax.lean ====
section
/-! DEFINITION. The abstract syntax of DSC: units, the raw fields of a command word, the 43 commands of the opcode table, and
the host's moves (30_encoding.md, 20_memory.md). -/

namespace Sys2Proof

/-- The units of 30_encoding.md R83 (numbers 12 to 14 name none). -/
inductive DspUnit where
  | sine | noise | lp1 | dcr | iir3 | rclp | rcbp | moog | bw | harm | delay | blk | sys
deriving DecidableEq, Repr

/-- The side-chain units `DELAY.PROC` may name (30_encoding.md R86, 46_delay.md R221). -/
inductive SideChain where
  | lp1 | dcr | iir3 | rclp | rcbp | moog | bw
deriving DecidableEq, Repr

/-- The six fields of a command word (30_encoding.md R81), before any legality check. -/
structure CmdFields where
  op : BitVec 4
  unit : BitVec 4
  sat : Bool
  iny : Bool
  sc : BitVec 4
  rsv : BitVec 18
deriving DecidableEq, Repr

/-- The commands: one constructor per row of the opcode table (30_encoding.md R88), in the table's order. `iny` is the
input-select flag (R85), `sat` the saturate flag (R84), carried exactly by the rows whose mask leaves the bit free. -/
inductive Instr where
  | sineProc
  | sineCfg
  | sineRst
  | noiseProc
  | lp1Proc (iny : Bool)
  | lp1Cfg
  | lp1Rst
  | dcrProc (iny : Bool)
  | dcrRst
  | iir3Proc (iny : Bool)
  | iir3Rst
  | rclpProc (iny : Bool)
  | rclpCfg
  | rclpRst
  | rcbpProc (iny : Bool)
  | rcbpCfg
  | rcbpRst
  | moogProc (sat iny : Bool)
  | moogCfg
  | moogRst
  | bwProc (iny : Bool)
  | bwCfg
  | bwRst
  | bwCfgLp
  | bwCfgHp
  | bwCfgBp
  | harmProc
  | harmCfg
  | harmRst
  | delayProc (iny : Bool)
  | delayProcScLp1 (iny : Bool)
  | delayProcScDcr (iny : Bool)
  | delayProcScIir3 (iny : Bool)
  | delayProcScRclp (iny : Bool)
  | delayProcScRcbp (iny : Bool)
  | delayProcScMoog (sat iny : Bool)
  | delayProcScBw (iny : Bool)
  | delayCfg
  | delayRst
  | delayProcNt (iny : Bool)
  | blkRun
  | sysNop
  | sysRstAll
deriving DecidableEq, Repr

/-- One move of the host (00_scope.md R12, 20_memory.md R62, R72). -/
inductive HostMove where
  /-- `BusWrite(a, v)`. -/
  | write (a : Addr) (v : Word64)
  /-- `BusRead(a)`. -/
  | read (a : Addr)
  /-- No access in this turn: a running block gets a sample step (DESIGN CHOICE, notes/assumptions/6.md). -/
  | idle
  /-- `WAITBLK`: no other move until `BUSY = 0` (30_encoding.md R93). -/
  | waitBlk
  /-- `rst_n` asserted and released (70_reset_and_hazards.md R280). -/
  | reset
deriving DecidableEq, Repr

end Sys2Proof
end

