-- ==== Sys2Proof/Machine/Units.lean ====
section
/-! DEFINITION. The numbers of the units, of the side-chains and of the operations (30_encoding.md R82, R83, R86). -/

namespace Sys2Proof

/-- The unit numbers of R83. -/
def DspUnit.code : DspUnit → BitVec 4
  | .sine => 0 | .noise => 1 | .lp1 => 2 | .dcr => 3 | .iir3 => 4 | .rclp => 5 | .rcbp => 6 | .moog => 7
  | .bw => 8 | .harm => 9 | .delay => 10 | .blk => 11 | .sys => 15

/-- The side-chain numbers of R86, which are the unit numbers. -/
def SideChain.code : SideChain → BitVec 4
  | .lp1 => 2 | .dcr => 3 | .iir3 => 4 | .rclp => 5 | .rcbp => 6 | .moog => 7 | .bw => 8

/-- The side-chain's unit. -/
def SideChain.unit : SideChain → DspUnit
  | .lp1 => .lp1 | .dcr => .dcr | .iir3 => .iir3 | .rclp => .rclp | .rcbp => .rcbp | .moog => .moog | .bw => .bw

/-- `OP` values of R82. -/
def opNop : BitVec 4 := 0
def opProc : BitVec 4 := 1
def opCfg : BitVec 4 := 2
def opRst : BitVec 4 := 3

end Sys2Proof
end

