-- ==== Sys2Proof/WellFormed.lean ====
section
/-! DEFINITION. Which command fields are legal (30_encoding.md R82 to R87, R89) and which configuration records are
(00_scope.md R7). An `Instr` carries no field that could be wrong: `Instr.wellFormed` asks the same of its raw fields. -/

namespace Sys2Proof

/-- R82, R83: the operation exists on the unit. Units 12 to 14 have none. -/
def CmdFields.opExists (f : CmdFields) : Bool :=
  match f.unit.toNat with
  | 0 => f.op == opProc || f.op == opCfg || f.op == opRst                            -- SINE
  | 1 => f.op == opProc                                                               -- NOISE
  | 2 => f.op == opProc || f.op == opCfg || f.op == opRst                            -- LP1
  | 3 => f.op == opProc || f.op == opRst                                              -- DCR
  | 4 => f.op == opProc || f.op == opRst                                              -- IIR3
  | 5 => f.op == opProc || f.op == opCfg || f.op == opRst                            -- RCLP
  | 6 => f.op == opProc || f.op == opCfg || f.op == opRst                            -- RCBP
  | 7 => f.op == opProc || f.op == opCfg || f.op == opRst                            -- MOOG
  | 8 => f.op == opProc || f.op == opCfg || f.op == opRst || f.op == 4 || f.op == 5 || f.op == 6  -- BW
  | 9 => f.op == opProc || f.op == opCfg || f.op == opRst                            -- HARM
  | 10 => f.op == opProc || f.op == opCfg || f.op == opRst || f.op == 4             -- DELAY
  | 11 => f.op == opProc                                                              -- BLK
  | 15 => f.op == opNop || f.op == opRst                                              -- SYS
  | _ => false

/-- The fields are a `DELAY.PROC`. -/
def CmdFields.isDelayProc (f : CmdFields) : Bool := f.unit == DspUnit.delay.code && f.op == opProc

/-- R84: `SAT` may be 1 only in `MOOG.PROC` and in `DELAY.PROC` with `SC = 7`. -/
def CmdFields.satLegal (f : CmdFields) : Bool :=
  !f.sat || (f.unit == DspUnit.moog.code && f.op == opProc) || (f.isDelayProc && f.sc == SideChain.moog.code)

/-- R85: `INY` may be 1 only in the `PROC` of units 2 to 8 and 10 and in `DELAY.PROCNT`. -/
def CmdFields.inyLegal (f : CmdFields) : Bool :=
  !f.iny || (f.op == opProc && ((2 ≤ f.unit.toNat && f.unit.toNat ≤ 8) || f.unit == DspUnit.delay.code)) ||
    (f.unit == DspUnit.delay.code && f.op == 4)

/-- R86: `SC` is 0, or 2 to 8 in `DELAY.PROC`. -/
def CmdFields.scLegal (f : CmdFields) : Bool :=
  f.sc == 0 || (f.isDelayProc && (2 ≤ f.sc.toNat && f.sc.toNat ≤ 8))

/-- R87: the reserved bits are zero. -/
def CmdFields.rsvLegal (f : CmdFields) : Bool := f.rsv == 0

/-- The fields are those of a legal command (R80, R82 to R87). -/
def CmdFields.wellFormed (f : CmdFields) : Bool :=
  f.opExists && f.satLegal && f.inyLegal && f.scLegal && f.rsvLegal

/-- `v` lies in `[lo, hi]` (so none is NaN). -/
def ParamRange.wellFormed (r : ParamRange) : Bool :=
  F64.isFinite r.min && F64.isFinite r.dflt && F64.isFinite r.max && F64.le r.min r.dflt && F64.le r.dflt r.max

/-- The constraint column of R7. Two bounds the column leaves to other rules (DESIGN CHOICE, notes/assumptions/14.md): the ROM lies inside
the address space, so `0x30000 + N/4` is an 18-bit address (20_memory.md R60), and an order fits its 32-bit register
(40_function_units.md R104). -/
def Config.wellFormed (c : Config) : Bool :=
  decide (4 ≤ c.lutBits ∧ c.lutBits ≤ 17) &&
  decide (1 ≤ c.harmMax ∧ c.harmMax ≤ 4096) &&
  decide (1 ≤ c.delayMax ∧ c.delayMax ≤ 65536) &&
  decide (1 ≤ c.obufDepth ∧ c.obufDepth ≤ 65536) &&
  decide (1 ≤ c.blockLen ∧ c.blockLen ≤ c.obufDepth) &&
  (F64.isFinite c.srateReset && F64.lt F64.posZero c.srateReset) &&
  (F64.isFinite c.baseHzReset && F64.lt F64.posZero c.baseHzReset) &&
  c.paramTable.toList.all ParamRange.wellFormed &&
  (F64.le F64.one c.paramTable[6].min && F64.le c.paramTable[6].max (F64.ofNat c.harmMax)) &&
  (F64.isFinite c.ditherAmp && F64.le F64.posZero c.ditherAmp) &&
  (F64.isFinite c.iir3Cx && F64.isFinite c.iir3Cy1 && F64.isFinite c.iir3Cy2 && F64.isFinite c.iir3Amp) &&
  decide (2 ≤ c.bwOrderMax ∧ c.bwOrderMax % 2 = 0 ∧ c.bwOrderMax < 2 ^ 32)

end Sys2Proof
end

