-- ==== Sys2Proof/Decode.lean ====
section
/-! DEFINITION. Decoding by match and mask (30_encoding.md R80, R88) and encoding by fields (R81), written separately from the two
tables of the spec. -/

namespace Sys2Proof

/-- Why a word is no command (R89). -/
inductive DecodeReject where
  /-- The word matches no row of R88: it is illegal and raises `ILLEGAL_CMD` (60_exceptions.md R256). -/
  | illegalCommand
deriving DecidableEq, Repr

/-- One row of R88: the word is the row's when `(w & mask) = pattern`; `build` reads the flags the mask leaves free. -/
structure OpRow where
  pattern : Word32
  mask : Word32
  build : Word32 → Instr

/-- Bit 9 of a word, `INY` (R81). -/
def wordIny (w : Word32) : Bool := w.getLsbD 9

/-- Bit 8 of a word, `SAT` (R81). -/
def wordSat (w : Word32) : Bool := w.getLsbD 8

/-- A row without optional flags: mask `0xFFFFFFFF`. -/
def plainRow (pattern : Word32) (i : Instr) : OpRow := ⟨pattern, 0xFFFFFFFF#32, fun _ => i⟩

/-- A row with `INY` optional: mask `0xFFFFFDFF`. -/
def inyRow (pattern : Word32) (i : Bool → Instr) : OpRow := ⟨pattern, 0xFFFFFDFF#32, fun w => i (wordIny w)⟩

/-- A row with `SAT` and `INY` optional: mask `0xFFFFFCFF`. -/
def satInyRow (pattern : Word32) (i : Bool → Bool → Instr) : OpRow :=
  ⟨pattern, 0xFFFFFCFF#32, fun w => i (wordSat w) (wordIny w)⟩

/-- The rows of R88 for units 0 to 6. -/
def opRowsPrimitive : List OpRow :=
  [plainRow 0x00000001#32 .sineProc, plainRow 0x00000002#32 .sineCfg, plainRow 0x00000003#32 .sineRst,
   plainRow 0x00000011#32 .noiseProc,
   inyRow 0x00000021#32 .lp1Proc, plainRow 0x00000022#32 .lp1Cfg, plainRow 0x00000023#32 .lp1Rst,
   inyRow 0x00000031#32 .dcrProc, plainRow 0x00000033#32 .dcrRst,
   inyRow 0x00000041#32 .iir3Proc, plainRow 0x00000043#32 .iir3Rst,
   inyRow 0x00000051#32 .rclpProc, plainRow 0x00000052#32 .rclpCfg, plainRow 0x00000053#32 .rclpRst,
   inyRow 0x00000061#32 .rcbpProc, plainRow 0x00000062#32 .rcbpCfg, plainRow 0x00000063#32 .rcbpRst]

/-- The rows of R88 for units 7 to 9. -/
def opRowsComposite : List OpRow :=
  [satInyRow 0x00000071#32 .moogProc, plainRow 0x00000072#32 .moogCfg, plainRow 0x00000073#32 .moogRst,
   inyRow 0x00000081#32 .bwProc, plainRow 0x00000082#32 .bwCfg, plainRow 0x00000083#32 .bwRst,
   plainRow 0x00000084#32 .bwCfgLp, plainRow 0x00000085#32 .bwCfgHp, plainRow 0x00000086#32 .bwCfgBp,
   plainRow 0x00000091#32 .harmProc, plainRow 0x00000092#32 .harmCfg, plainRow 0x00000093#32 .harmRst]

/-- The rows of R88 for units 10, 11 and 15. -/
def opRowsDelayBlkSys : List OpRow :=
  [inyRow 0x000000A1#32 .delayProc, inyRow 0x000008A1#32 .delayProcScLp1, inyRow 0x00000CA1#32 .delayProcScDcr,
   inyRow 0x000010A1#32 .delayProcScIir3, inyRow 0x000014A1#32 .delayProcScRclp, inyRow 0x000018A1#32 .delayProcScRcbp,
   satInyRow 0x00001CA1#32 .delayProcScMoog, inyRow 0x000020A1#32 .delayProcScBw,
   plainRow 0x000000A2#32 .delayCfg, plainRow 0x000000A3#32 .delayRst, inyRow 0x000000A4#32 .delayProcNt,
   plainRow 0x000000B1#32 .blkRun, plainRow 0x000000F0#32 .sysNop, plainRow 0x000000F3#32 .sysRstAll]

/-- The opcode map of R88, 43 rows. -/
def opRows : List OpRow := opRowsPrimitive ++ opRowsComposite ++ opRowsDelayBlkSys

/-- The word is the row's (R80). -/
def OpRow.matchesWord (r : OpRow) (w : Word32) : Bool := w &&& r.mask == r.pattern

/-- The command a word encodes, or its rejection by name (R80, R89). Total on all `2^32` words. -/
def decode (w : Word32) : Except DecodeReject Instr :=
  match opRows.find? (fun r => r.matchesWord w) with
  | some r => .ok (r.build w)
  | none => .error .illegalCommand

/-- The command in the data of a `CMD` write: bits 31:0; bits 63:32 are ignored (R87, 10_state.md R29). -/
def decodeData (v : Word64) : Except DecodeReject Instr := decode (v.setWidth 32)

/-- The fields of a word (R81). -/
def fieldsOfWord (w : Word32) : CmdFields where
  op := w.extractLsb' 0 4
  unit := w.extractLsb' 4 4
  sat := w.getLsbD 8
  iny := w.getLsbD 9
  sc := w.extractLsb' 10 4
  rsv := w.extractLsb' 14 18

/-- `w = OP | UNIT << 4 | SAT << 8 | INY << 9 | SC << 10`, and the reserved bits (R81). -/
def CmdFields.toWord (f : CmdFields) : Word32 :=
  f.op.setWidth 32 ||| f.unit.setWidth 32 <<< 4 ||| (BitVec.ofBool f.sat).setWidth 32 <<< 8 |||
    (BitVec.ofBool f.iny).setWidth 32 <<< 9 ||| f.sc.setWidth 32 <<< 10 ||| f.rsv.setWidth 32 <<< 14

/-- The fields of a command of unit `u` with operation `op` and the optional flags. -/
def cmdFields (op : BitVec 4) (u : DspUnit) (sat iny : Bool) (sc : BitVec 4) : CmdFields := ⟨op, u.code, sat, iny, sc, 0⟩

/-- The fields of a command without flags. -/
def plainFields (op : BitVec 4) (u : DspUnit) : CmdFields := cmdFields op u false false 0

/-- The fields of every command (R82 to R86). -/
def Instr.fields : Instr → CmdFields
  | .sineProc => plainFields opProc .sine
  | .sineCfg => plainFields opCfg .sine
  | .sineRst => plainFields opRst .sine
  | .noiseProc => plainFields opProc .noise
  | .lp1Proc iny => cmdFields opProc .lp1 false iny 0
  | .lp1Cfg => plainFields opCfg .lp1
  | .lp1Rst => plainFields opRst .lp1
  | .dcrProc iny => cmdFields opProc .dcr false iny 0
  | .dcrRst => plainFields opRst .dcr
  | .iir3Proc iny => cmdFields opProc .iir3 false iny 0
  | .iir3Rst => plainFields opRst .iir3
  | .rclpProc iny => cmdFields opProc .rclp false iny 0
  | .rclpCfg => plainFields opCfg .rclp
  | .rclpRst => plainFields opRst .rclp
  | .rcbpProc iny => cmdFields opProc .rcbp false iny 0
  | .rcbpCfg => plainFields opCfg .rcbp
  | .rcbpRst => plainFields opRst .rcbp
  | .moogProc sat iny => cmdFields opProc .moog sat iny 0
  | .moogCfg => plainFields opCfg .moog
  | .moogRst => plainFields opRst .moog
  | .bwProc iny => cmdFields opProc .bw false iny 0
  | .bwCfg => plainFields opCfg .bw
  | .bwRst => plainFields opRst .bw
  | .bwCfgLp => plainFields 4 .bw
  | .bwCfgHp => plainFields 5 .bw
  | .bwCfgBp => plainFields 6 .bw
  | .harmProc => plainFields opProc .harm
  | .harmCfg => plainFields opCfg .harm
  | .harmRst => plainFields opRst .harm
  | .delayProc iny => cmdFields opProc .delay false iny 0
  | .delayProcScLp1 iny => cmdFields opProc .delay false iny SideChain.lp1.code
  | .delayProcScDcr iny => cmdFields opProc .delay false iny SideChain.dcr.code
  | .delayProcScIir3 iny => cmdFields opProc .delay false iny SideChain.iir3.code
  | .delayProcScRclp iny => cmdFields opProc .delay false iny SideChain.rclp.code
  | .delayProcScRcbp iny => cmdFields opProc .delay false iny SideChain.rcbp.code
  | .delayProcScMoog sat iny => cmdFields opProc .delay sat iny SideChain.moog.code
  | .delayProcScBw iny => cmdFields opProc .delay false iny SideChain.bw.code
  | .delayCfg => plainFields opCfg .delay
  | .delayRst => plainFields opRst .delay
  | .delayProcNt iny => cmdFields 4 .delay false iny 0
  | .blkRun => plainFields opProc .blk
  | .sysNop => plainFields opNop .sys
  | .sysRstAll => plainFields opRst .sys

/-- The command's fields are legal: true of every `Instr`, whose constructors carry only the flags their row allows. -/
def Instr.wellFormed (i : Instr) : Bool := i.fields.wellFormed

/-- The word of a command (R81, R92). -/
def encode (i : Instr) : Word32 := i.fields.toWord

/-- The host's question: what the decoder reads from an opcode-table row's word of `nbits` bits, the bits above them zero. -/
def decodeTableWord (nbits w : Nat) : Option Instr := (decodeData (BitVec.ofNat 64 (w % 2 ^ nbits))).toOption

end Sys2Proof
end

