-- ==== Sys2Proof/Machine/Params.lean ====
section
/-! DEFINITION. The constants of 10_state.md R49 and the reference configuration record of 00_scope.md R7 with the reference
`PARAM_TABLE` of 10_state.md R27. -/

namespace Sys2Proof.Machine

/-- `PI` (R49). -/
def numPi : Num64 := 0x400921FB54442D18#64
/-- `TWO_PI` (R49). -/
def numTwoPi : Num64 := 0x401921FB54442D18#64
/-- `0.01` (R49). -/
def c001 : Num64 := 0x3F847AE147AE147B#64
/-- `0.99` (R49). -/
def c099 : Num64 := 0x3FEFAE147AE147AE#64
/-- `0.3` (R49). -/
def c03 : Num64 := 0x3FD3333333333333#64
/-- `0.15` (R49). -/
def c015 : Num64 := 0x3FC3333333333333#64
/-- `0.35013` (R49). -/
def c035013 : Num64 := 0x3FD66887A8D64D7F#64
/-- `0.95` (R49). -/
def c095 : Num64 := 0x3FEE666666666666#64
/-- `0.05` (R49). -/
def c005 : Num64 := 0x3FA999999999999A#64
/-- `0.2` (R49). -/
def c02 : Num64 := 0x3FC999999999999A#64
/-- `0.49` (R49). -/
def c049 : Num64 := 0x3FDF5C28F5C28F5C#64

/-- A `PARAM_TABLE` row whose three entries are integers. -/
def intRange (dflt min max : Int) : ParamRange := ⟨F64.ofInt dflt, F64.ofInt min, F64.ofInt max⟩

/-- DESIGN CHOICE (notes/assumptions/3.md): the reference record of R7. Its OPEN rows (`blockLen`, `baseHzReset`, `paramTable`, `ditherAmp`)
stand at the values the spec's own test vectors use; unsafe for a claim about the run from reset alone. -/
def referenceConf : Config where
  lutBits := 10
  harmMax := 64
  delayMax := 65536
  obufDepth := 1024
  blockLen := 128
  srateReset := F64.ofNat 44100
  baseHzReset := F64.ofNat 55
  paramTable := #v[⟨F64.half, F64.posZero, F64.one⟩, ⟨F64.half, F64.posZero, F64.one⟩, intRange 0 0 1,
    intRange 3 0 7, intRange 5 0 7, intRange 0 (-8) 8, intRange 8 1 64, intRange 3 0 8, intRange 1 0 8]
  ditherAmp := F64.posZero
  iir3Cx := c001
  iir3Cy1 := c02
  iir3Cy2 := c03
  iir3Amp := c049
  bwOrderMax := 64

end Sys2Proof.Machine
end

