-- ==== Sys2Proof/Machine/State.lean ====
section
/-! DEFINITION. The state of DSC as plain data (10_state.md), what a step could stop with, and the machine right after reset
(10_state.md R50, 70_reset_and_hazards.md R280). -/

namespace Sys2Proof.Machine

/-- The array memories a command writes (`HARM_PHASE`, `HARM_AMP`, `HARM_INC`, `OBUF`), keyed by word address
(20_memory.md R60): addresses strictly rising, no entry equal to what an unlisted address reads as (`+0`, their reset
contents, R50). DESIGN CHOICE, notes/assumptions/2.md. -/
abbrev Memory := List (Nat × Num64)

/-- Every listed address is above `a`. -/
def Memory.above (a : Nat) (m : Memory) : Bool := m.all (fun c => decide (a < c.1))

/-- The canonical form: addresses strictly rising, no entry holding `+0`. -/
def Memory.wf : Memory → Bool
  | [] => true
  | (a, v) :: rest => v != F64.posZero && Memory.above a rest && Memory.wf rest

/-- `SINE` (R36). -/
structure Sine where
  freq : Num64
  inc : Num64
  phase : Num64
deriving DecidableEq, Repr

/-- `LP1` (R38). -/
structure Lp1 where
  k : Num64
  mem : Num64
deriving DecidableEq, Repr

/-- `DCR` (R39). -/
structure Dcr where
  mem : Num64
deriving DecidableEq, Repr

/-- `IIR3` (R40). -/
structure Iir3 where
  y1 : Num64
  y2 : Num64
deriving DecidableEq, Repr

/-- One RC leg: `RCLP` itself (R41) or one of the two legs of `RCBP` (R42). -/
structure RcLeg where
  dt : Num64
  rc : Num64
  alpha : Num64
  last : Num64
deriving DecidableEq, Repr

/-- `RCBP` (R42): two independent RC legs. -/
structure Rcbp where
  hp : RcLeg
  lp : RcLeg
deriving DecidableEq, Repr

/-- One stage of the ladder: `MOOG_IN[i]`, `MOOG_OUT[i]` (R43). -/
structure Stage where
  prevIn : Num64
  prevOut : Num64
deriving DecidableEq, Repr

/-- `MOOG` (R43): five coefficients and the four stages. -/
structure Moog where
  f : Num64
  af : Num64
  sqf : Num64
  fb : Num64
  res : Num64
  st1 : Stage
  st2 : Stage
  st3 : Stage
  st4 : Stage
deriving DecidableEq, Repr

/-- What a Butterworth design writes into a section: the biquad and the design record `{N, WC, HP}` (R44,
44_butterworth.md R180). -/
structure BwCoefs where
  a0 : Num64
  a1 : Num64
  a2 : Num64
  b1 : Num64
  b2 : Num64
  n : Word32
  wc : Num64
  hp : Word32
deriving DecidableEq, Repr

/-- One biquad section of `BW`: coefficients and the 2-sample input/output history (R44). -/
structure BwSection where
  coefs : BwCoefs
  x1 : Num64
  x2 : Num64
  y1 : Num64
  y2 : Num64
deriving DecidableEq, Repr

/-- `BW` (R44). -/
structure Bw where
  mode : Word32
  gain : Num64
  s0 : BwSection
  s1 : BwSection
deriving DecidableEq, Repr

/-- `HARM` (R45) but for its three slot arrays, which lie in the memory. -/
structure Harm where
  count : Word32
  basef : Num64
  offset : Num64
  center : Num64
  width : Num64
  master : Num64
  finc : Num64
deriving DecidableEq, Repr

/-- `DELAY` (R46). `fifo` is the ordered history, oldest first (46_delay.md R215); `DELAY_LEN` is its length. -/
structure Delay where
  n : Word32
  fb : Num64
  fifo : List Num64
  cell : Num64
deriving DecidableEq, Repr

/-- The hidden block state `BLK_IDX`, `BLK_N`, `BLK_SAT` (R47), which gives it no widths (DEDUCED, notes/assumptions/12.md). -/
structure Blk where
  idx : Nat
  n : Nat
  sat : Bool
deriving DecidableEq, Repr

/-- The whole machine. `conf`, `port` and `rdata` are the model's own (INVENTORY.md); every other field is the spec's. -/
structure State where
  /-- The configuration record (00_scope.md R7): never changes. -/
  conf : Config
  /-- `STATUS` (R23). -/
  status : Word32
  /-- `IEN` (R24). -/
  ien : Word32
  /-- `ERRCODE` (R25). -/
  errcode : Word32
  /-- `ERRINFO` (R25). -/
  errinfo : Word32
  /-- `ERRVAL` (R25). -/
  errval : Num64
  /-- `CFGVALID` (R34). -/
  cfgvalid : Word32
  /-- `SRATE` (R30). -/
  srate : Num64
  /-- `BASEHZ` (R31). -/
  basehz : Num64
  /-- `BLKLEN` (R32). -/
  blklen : Word32
  /-- `BLKCTL` (R33). -/
  blkctl : Word32
  /-- `X` (R21). -/
  x : Num64
  /-- `Y` (R21). -/
  y : Num64
  /-- `ARG0..ARG5` (R21). -/
  arg : Vector Num64 6
  /-- `P[0..8]` (R26). -/
  p : Vector Num64 9
  /-- `PS[0..8]` (R28). -/
  ps : Vector Num64 9
  sine : Sine
  /-- `NOISE_IDX` (R37). -/
  noiseIdx : Word64
  lp1 : Lp1
  dcr : Dcr
  iir3 : Iir3
  rclp : RcLeg
  rcbp : Rcbp
  moog : Moog
  bw : Bw
  harm : Harm
  delay : Delay
  blk : Blk
  /-- `HARM_PHASE`, `HARM_AMP`, `HARM_INC`, `OBUF` (20_memory.md R60). -/
  mem : Memory
  /-- The host's moves still to come, the next one first (00_scope.md R12; DESIGN CHOICE, notes/assumptions/5.md). -/
  port : List HostMove
  /-- What the last completed bus read returned (20_memory.md R72; 0 at reset: DESIGN CHOICE, notes/assumptions/7.md). -/
  rdata : Word64
deriving DecidableEq, Repr

/-- Reasons a step could stop the machine: none. "Nothing in DSC is 'unpredictable' or 'undefined behaviour': every action in every
state has exactly one outcome" (93_implementation_defined.md section 2); an error is recorded and the machine goes on
(60_exceptions.md R254). -/
inductive Fault where
deriving DecidableEq, Repr

/-- Reasons a step is refused. -/
inductive Refusal where
  /-- An instruction whose arm has no meaning yet, by its opcode-table mnemonic. Raised by no arm of this model; safe (the machine
  stops where the hardware would go on). -/
  | notModelled (mnemonic : String)
deriving DecidableEq, Repr

/-- An RC leg at reset (R50). -/
def RcLeg.zero : RcLeg := ⟨F64.posZero, F64.posZero, F64.posZero, F64.posZero⟩

/-- A ladder stage at reset (R50). -/
def Stage.zero : Stage := ⟨F64.posZero, F64.posZero⟩

/-- A biquad section at reset (R50). -/
def BwSection.zero : BwSection where
  coefs := ⟨F64.posZero, F64.posZero, F64.posZero, F64.posZero, F64.posZero, 0, F64.posZero, 0⟩
  x1 := F64.posZero
  x2 := F64.posZero
  y1 := F64.posZero
  y2 := F64.posZero

/-- `PARAM_TABLE[i].default` for all nine parameters. -/
def paramDefaults (c : Config) : Vector Num64 9 := c.paramTable.map ParamRange.dflt

/-- The state a DSC with configuration record `c` has when `rst_n` is released (R50, 70_reset_and_hazards.md R280). -/
def resetState (c : Config) : State where
  conf := c
  status := 0
  ien := 0
  errcode := 0
  errinfo := 0
  errval := F64.posZero
  cfgvalid := 0x0000001A#32
  srate := c.srateReset
  basehz := c.baseHzReset
  blklen := BitVec.ofNat 32 c.blockLen
  blkctl := 0
  x := F64.posZero
  y := F64.posZero
  arg := Vector.replicate 6 F64.posZero
  p := paramDefaults c
  ps := paramDefaults c
  sine := ⟨F64.posZero, F64.posZero, F64.posZero⟩
  noiseIdx := 0
  lp1 := ⟨F64.posZero, F64.posZero⟩
  dcr := ⟨F64.posZero⟩
  iir3 := ⟨F64.posZero, F64.posZero⟩
  rclp := RcLeg.zero
  rcbp := ⟨RcLeg.zero, RcLeg.zero⟩
  moog := ⟨F64.posZero, F64.posZero, F64.posZero, F64.posZero, F64.posZero, Stage.zero, Stage.zero, Stage.zero, Stage.zero⟩
  bw := ⟨0, F64.posZero, BwSection.zero, BwSection.zero⟩
  harm := ⟨1, F64.posZero, F64.posZero, F64.posZero, F64.posZero, F64.posZero, F64.posZero⟩
  delay := ⟨0, F64.posZero, [], F64.posZero⟩
  blk := ⟨0, 0, false⟩
  mem := []
  port := []
  rdata := 0

/-- The machine right after reset, with the reference configuration record and a host that has issued nothing
(DESIGN CHOICE, notes/assumptions/3.md, 5.md). -/
def State.reset : State := resetState referenceConf

end Sys2Proof.Machine
end

