-- ==== Sys2Proof/Machine/Flags.lean ====
section
/-! DEFINITION. The flags of DSC: the `STATUS` bits and their setting and acknowledging (10_state.md R23), the cause codes and the
flag of each cause (60_exceptions.md R251), the `CFGVALID` bits (10_state.md R34), and the interrupt line (60_exceptions.md R260).
DSC has no arithmetic condition codes (R23). -/

namespace Sys2Proof.Machine

/-- The causes an error can record (60_exceptions.md R251). -/
inductive ErrCause where
  | illegalCmd
  | notConfigured
  | busUnmapped
  | busRoWrite
  | busBadValue
  | bwFpass
  | bwFstop
  | bwFeq
  | bwHpass
  | bwHstop
  | bwOrder
  | bwWarp
  | dlLenNonPos
  | dlLenMax
  | dlFb
  | lp1K
deriving DecidableEq, Repr

/-- The cause code, `ERRCODE[7:0]` (60_exceptions.md R251). -/
def ErrCause.code : ErrCause → BitVec 8
  | .illegalCmd => 0x01
  | .notConfigured => 0x02
  | .busUnmapped => 0x03
  | .busRoWrite => 0x04
  | .busBadValue => 0x05
  | .bwFpass => 0x10
  | .bwFstop => 0x11
  | .bwFeq => 0x12
  | .bwHpass => 0x13
  | .bwHstop => 0x14
  | .bwOrder => 0x15
  | .bwWarp => 0x16
  | .dlLenNonPos => 0x20
  | .dlLenMax => 0x21
  | .dlFb => 0x22
  | .lp1K => 0x30

/-- The flags of `STATUS` (10_state.md R23). -/
inductive StatusFlag where
  | busy | cfgErr | illCmd | busErr | blkDone | notCfg
deriving DecidableEq, Repr

/-- The flag's bit as a mask. -/
def StatusFlag.bit : StatusFlag → Word32
  | .busy => 0x01#32
  | .cfgErr => 0x02#32
  | .illCmd => 0x04#32
  | .busErr => 0x08#32
  | .blkDone => 0x10#32
  | .notCfg => 0x20#32

/-- The flag of a cause's class (60_exceptions.md R251). -/
def ErrCause.flag : ErrCause → StatusFlag
  | .illegalCmd => .illCmd
  | .notConfigured => .notCfg
  | .busUnmapped => .busErr
  | .busRoWrite => .busErr
  | .busBadValue => .busErr
  | .bwFpass => .cfgErr
  | .bwFstop => .cfgErr
  | .bwFeq => .cfgErr
  | .bwHpass => .cfgErr
  | .bwHstop => .cfgErr
  | .bwOrder => .cfgErr
  | .bwWarp => .cfgErr
  | .dlLenNonPos => .cfgErr
  | .dlLenMax => .cfgErr
  | .dlFb => .cfgErr
  | .lp1K => .cfgErr

/-- Set one flag in a status word; the others are unchanged. -/
def setFlag (w : Word32) (f : StatusFlag) : Word32 := w ||| f.bit

/-- Clear one flag in a status word; the others are unchanged. -/
def clearFlag (w : Word32) (f : StatusFlag) : Word32 := w &&& ~~~f.bit

/-- The W1C flags: `STATUS` bits 5:1 (10_state.md R23). -/
def w1cMask : Word32 := 0x3E#32

/-- `STATUS[5:1] <- STATUS[5:1] & ~v[5:1]` (20_memory.md R62). -/
def ackFlags (w v : Word32) : Word32 := w &&& ~~~(v &&& w1cMask)

/-- The flag reads 1. -/
def State.flagSet (s : State) (f : StatusFlag) : Bool := s.status &&& f.bit != 0

/-- `STATUS.BUSY` (10_state.md R23). -/
def State.busy (s : State) : Bool := s.flagSet .busy

/-- `STATUS` as it reads: bits 31:6 are 0 (10_state.md R23). -/
def statusWord (s : State) : Word32 := s.status &&& 0x3F#32

/-- `IEN` as it reads: bits 0 and 31:6 are 0 (10_state.md R24). -/
def ienWord (s : State) : Word32 := s.ien &&& 0x3E#32

/-- `BLKCTL` as it reads: bits 31:1 are 0 (10_state.md R33). -/
def blkctlWord (s : State) : Word32 := s.blkctl &&& 0x1#32

/-- `BLKCTL.SAT` (10_state.md R33). -/
def blkctlSat (s : State) : Bool := s.blkctl.getLsbD 0

/-- `CFGVALID` as it reads: bits 1, 3 and 4 are hardwired 1, bits 31:11 are 0 (10_state.md R34). -/
def cfgvalidWord (s : State) : Word32 := (s.cfgvalid &&& 0x7FF#32) ||| 0x1A#32

/-- `CFGVALID[u] = 1`: unit `u` may be processed (10_state.md R34). -/
def State.configured (s : State) (u : DspUnit) : Bool := (cfgvalidWord s).getLsbD u.code.toNat

/-- `irq = ((STATUS & IEN & 0x3E) != 0)` (60_exceptions.md R260). -/
def State.irq (s : State) : Bool := s.status &&& s.ien &&& 0x3E#32 != 0

end Sys2Proof.Machine
end

