-- ==== Sys2Proof/Machine/Ops.lean ====
section
/-! DEFINITION. The shared operations over memory and state: reading and writing one word of the array memories, recording an
error (DSC's whole "exception entry", 60_exceptions.md R252, R254) and acknowledging one (its "return", R255). -/

namespace Sys2Proof.Machine

/-- What an unlisted address reads as: `+0`, the reset contents of every array memory (10_state.md R50). -/
def unlistedWord : Num64 := F64.posZero

/-- `MemRead(a)`: the word at word address `a` (00_scope.md R11). -/
def Memory.read : Memory → Nat → Num64
  | [], _ => unlistedWord
  | (b, v) :: rest, a => if a = b then v else Memory.read rest a

/-- Drop the entry of address `a`, if there is one. -/
def Memory.erase : Memory → Nat → Memory
  | [], _ => []
  | (b, v) :: rest, a => if a = b then rest else (b, v) :: Memory.erase rest a

/-- Enter `v`, which is not what an unlisted address reads as, at address `a`. -/
def Memory.insert : Memory → Nat → Num64 → Memory
  | [], a, v => [(a, v)]
  | (b, w) :: rest, a, v =>
    if a < b then (a, v) :: (b, w) :: rest
    else if a = b then (a, v) :: rest
    else (b, w) :: Memory.insert rest a v

/-- `MemWrite(a, v)` (00_scope.md R11): writing what an unlisted address reads as removes the entry. -/
def Memory.write (m : Memory) (a : Nat) (v : Num64) : Memory :=
  if v = unlistedWord then m.erase a else m.insert a v

/-- First word address of `HARM_PHASE` (20_memory.md R60). -/
def harmPhaseBase : Nat := 0x01000
/-- First word address of `HARM_AMP` (20_memory.md R60). -/
def harmAmpBase : Nat := 0x02000
/-- First word address of `HARM_INC` (20_memory.md R60). -/
def harmIncBase : Nat := 0x03000
/-- First word address of `OBUF` (20_memory.md R60). -/
def obufBase : Nat := 0x10000

/-- `HARM_PHASE[h]`. -/
def Memory.harmPhase (m : Memory) (h : Nat) : Num64 := m.read (harmPhaseBase + h)
/-- `HARM_AMP[h]`. -/
def Memory.harmAmp (m : Memory) (h : Nat) : Num64 := m.read (harmAmpBase + h)
/-- `HARM_INC[h]`. -/
def Memory.harmInc (m : Memory) (h : Nat) : Num64 := m.read (harmIncBase + h)
/-- `OBUF[i]`. -/
def Memory.obuf (m : Memory) (i : Nat) : Num64 := m.read (obufBase + i)

/-- Recording an error `(code, info, val)` (60_exceptions.md R252): the three record registers and the flag of the code's class,
nothing else. This is DSC's whole "trap entry" (R254): nothing is saved, no mode changes, no control transfers. -/
def recordError (c : ErrCause) (info : Word32) (val : Num64) (s : State) : State :=
  { s with
    errcode := c.code.setWidth 32
    errinfo := info
    errval := val
    status := setFlag s.status c.flag }

/-- The "return" (60_exceptions.md R255): the host's write of `v` to `STATUS` clears the flags it names and leaves the record. -/
def acknowledge (v : Word32) (s : State) : State := { s with status := ackFlags s.status v }

/-- `raise BusError(cause, address, value)` (60_exceptions.md R258): the record's `ERRINFO` is the zero-extended word address. -/
def busError (c : ErrCause) (a : Addr) (val : Num64) (s : State) : State := recordError c (a.setWidth 32) val s

/-- `raise NotConfigured` for command word `w` (60_exceptions.md R257). -/
def notConfigured (w : Word32) (s : State) : State := recordError .notConfigured w F64.posZero s

/-- A command's result: `Y <- y` (41_operator_contract_sys.md R121). -/
def State.writeY (s : State) (y : Num64) : State := { s with y := y }

/-- `CFGVALID[u] <- 1` (41_operator_contract_sys.md R123). -/
def State.markConfigured (s : State) (u : DspUnit) : State :=
  { s with cfgvalid := s.cfgvalid ||| 1#32 <<< u.code.toNat }

/-- The array memories replaced. -/
def State.withMem (s : State) (m : Memory) : State := { s with mem := m }

/-- The host's remaining moves replaced. -/
def State.withPort (s : State) (moves : List HostMove) : State := { s with port := moves }

/-- The data of a completed bus read. -/
def State.withRdata (s : State) (v : Word64) : State := { s with rdata := v }

end Sys2Proof.Machine
end

