-- ==== Sys2Proof/Machine/Operands.lean ====
section
/-! DEFINITION. The operand forms of DSC's commands: the input sample selected by `INY` (30_encoding.md R85), the raw parameters
`ARG0..ARG5` (R91), and the two command templates every `PROC` and every `CFG` follows (41_operator_contract_sys.md R121, R123). -/

namespace Sys2Proof.Machine

/-- The input sample: `(INY = 1) ? Y : X` (41_operator_contract_sys.md R121). -/
def inputSample (iny : Bool) (s : State) : Num64 := if iny then s.y else s.x

/-- `ARG0`. -/
def arg0 (s : State) : Num64 := s.arg[0]
/-- `ARG1`. -/
def arg1 (s : State) : Num64 := s.arg[1]
/-- `ARG2`. -/
def arg2 (s : State) : Num64 := s.arg[2]
/-- `ARG3`. -/
def arg3 (s : State) : Num64 := s.arg[3]
/-- `ARG4`. -/
def arg4 (s : State) : Num64 := s.arg[4]
/-- `ARG5`. -/
def arg5 (s : State) : Num64 := s.arg[5]

/-- Step 1 of a `PROC` (41_operator_contract_sys.md R121): the command runs when the unit is configured, else it raises
`NotConfigured` with its own word. -/
def whenConfigured (u : DspUnit) (i : Instr) (s : State) (run : State) : State :=
  if s.configured u then run else notConfigured (encode i) s

/-- Steps 2 to 4 of a `CFG` (41_operator_contract_sys.md R123): a failed validation records its cause and value and writes nothing;
a passed one lets `write` store the coefficients. -/
def whenValid {α : Type} (i : Instr) (s : State) (checked : Except (ErrCause × Num64) α) (write : α → State) : State :=
  match checked with
  | .ok a => write a
  | .error (c, v) => recordError c (encode i) v s

end Sys2Proof.Machine
end

