-- ==== Sys2Proof/Machine/Elementary.lean ====
section
/-! DEFINITION. The elementary-function units `EXP2` and `LOG2` (40_function_units.md R105, R106), correctly rounded for
every argument. Each first finds the exact floor of the result at a fixed scale; the result is irrational there, so it lies
strictly between that floor and the next integer, where no rounding boundary lies, and one rounding of the middle gives the
nearest `NUM`. The floor has a closed definition (`exp2FloorExact`, `log2FloorExact`) and a fast interval evaluation that is
used where the two ends of the interval agree (DEDUCED, notes/assumptions/10.md). -/

namespace Sys2Proof.F64

/-- Integer square root, digit by digit: the greatest `r + x` with `x < 2^k` whose square is at most `n`. -/
def isqrtBits (n : Nat) : Nat → Nat → Nat
  | 0, r => r
  | k + 1, r => if (r + 2 ^ k) * (r + 2 ^ k) ≤ n then isqrtBits n k (r + 2 ^ k) else isqrtBits n k r

/-- Newton's iteration for the integer square root, from above. -/
def isqrtNewton (n : Nat) : Nat → Nat → Nat
  | 0, x => x
  | fuel + 1, x => if (x + n / x) / 2 < x then isqrtNewton n fuel ((x + n / x) / 2) else x

/-- The integer square root of `n`: Newton's answer where it checks, else the digit by digit one. -/
def isqrt (n : Nat) : Nat :=
  let x := isqrtNewton n 64 (2 ^ (Nat.log2 n / 2 + 1))
  if x * x ≤ n ∧ n < (x + 1) * (x + 1) then x else isqrtBits n (Nat.log2 n / 2 + 1) 0

/-- Working precision of the `EXP2` interval, in bits. -/
def expPrec : Nat := 160

/-- The product of the roots `2^(2^-j)` named by the bits of a 128-bit fraction `f`, most significant first, as an interval
at scale `2^expPrec`: `(rlo, rhi)` brackets the current root, `(plo, phi)` the product so far. -/
def exp2Interval (f : Nat) : Nat → Nat → Nat → Nat → Nat → Nat × Nat
  | 0, _, _, plo, phi => (plo, phi)
  | i + 1, rlo, rhi, plo, phi =>
    let slo := isqrt (rlo * 2 ^ expPrec)
    let shi := isqrt (rhi * 2 ^ expPrec) + 1
    if f / 2 ^ i % 2 = 1 then
      exp2Interval f i slo shi (plo * slo / 2 ^ expPrec) (phi * shi / 2 ^ expPrec + 1)
    else exp2Interval f i slo shi plo phi

/-- The floor of `2^(64 + f / 2^1074)`, as 1074 nested integer square roots. Closed form; far too large to evaluate. -/
def exp2FloorExact (f : Nat) : Nat := Nat.iterate isqrt 1074 (2 ^ (f + 64 * 2 ^ 1074))

/-- The floor of `2^(64 + f / 2^1074)` for `0 < f < 2^1074`: the interval's answer where both ends agree. The upper end
allows for the bits of `f` below the first 128 (`2^(2^-128) <= 1 + 2^-128`) and stays below `2^65`. -/
def exp2Floor (f : Nat) : Nat :=
  let b := exp2Interval (f / 2 ^ 946) 128 (2 ^ (expPrec + 1)) (2 ^ (expPrec + 1)) (2 ^ expPrec) (2 ^ expPrec)
  let lo := b.1 / 2 ^ (expPrec - 64)
  let hi := min ((b.2 + b.2 / 2 ^ 128 + 1) / 2 ^ (expPrec - 64)) (2 ^ 65 - 1)
  if lo = hi then lo else exp2FloorExact f

/-- `EXP2(v)`: the `NUM` nearest to `2^v` (R105). -/
def exp2 (v : Num64) : Num64 :=
  if isNaN v then qNaN
  else if isInf v then (if neg v then posZero else posInf)
  else if 1024 * 2 ^ 1074 ≤ scaled v then posInf
  else if scaled v < -1075 * 2 ^ 1074 then posZero
  else
    let e := (floor v + 1075).toNat
    let f := (scaled v % 2 ^ 1074).toNat
    if f = 0 then mk false (roundMag (2 ^ e) 2)
    else mk false (roundMag (2 ^ e * (2 * exp2Floor f + 1)) (2 ^ 66))

/-- Working precision of the `LOG2` interval, in bits. -/
def logPrec : Nat := 320

/-- Binary digits of the logarithm of a value in `(1, 2)` held as an interval at scale `2^logPrec`, by repeated squaring;
`none` when the interval no longer decides a digit. -/
def log2Digits : Nat → Nat → Nat → Nat → Option Nat
  | 0, _, _, acc => some acc
  | i + 1, lo, hi, acc =>
    let lo2 := lo * lo / 2 ^ logPrec
    let hi2 := hi * hi / 2 ^ logPrec + 1
    if 2 ^ (logPrec + 1) ≤ lo2 then log2Digits i (lo2 / 2) (hi2 / 2 + 1) (2 * acc + 1)
    else if hi2 < 2 ^ (logPrec + 1) then log2Digits i lo2 hi2 (2 * acc)
    else none

/-- The floor of `2^128 * log2(s / 2^e)` for `2^e <= s`. Closed form; far too large to evaluate. -/
def log2FloorExact (s e : Nat) : Nat := Nat.log2 (s ^ 2 ^ 128) - e * 2 ^ 128

/-- The floor of `2^128 * log2(s / 2^e)` for `2^e < s < 2^(e+1)`: the digits where the interval decides them all. -/
def log2Floor (s e : Nat) : Nat :=
  match log2Digits 128 (s * 2 ^ logPrec / 2 ^ e) (s * 2 ^ logPrec / 2 ^ e + 1) 0 with
  | some n => n
  | none => log2FloorExact s e

/-- `LOG2(v)`: the `NUM` nearest to the base-2 logarithm of `v` (R106). -/
def log2 (v : Num64) : Num64 :=
  if isNaN v then qNaN
  else if isZero v then negInf
  else if neg v then qNaN
  else if isInf v then posInf
  else
    let s := scaledMag v
    let e := Nat.log2 s
    if s = 2 ^ e then ofInt ((e : Int) - 1074)
    else
      let r : Int := ((e : Int) - 1074) * 2 ^ 128 + (log2Floor s e : Int)
      mk (decide (r < 0)) (roundMag ((2 * r + 1).natAbs * 2 ^ 945) 1)

end Sys2Proof.F64
end

