-- ==== Sys2Proof/Machine/Rom.lean ====
section
/-! DEFINITION. The quarter-wave sine ROM `SINQ` (10_state.md R48): the reference table of 40_function_units.md R110 for
`LUT_BITS = 10`, and the same definition computed for every other size. -/

namespace Sys2Proof.Machine

/-- `SINQ[0..31]` (R110). -/
def sinqRows0 : List Nat :=
  [0x0000000000000000, 0x3F7921F0FE670071, 0x3F8921D1FCDEC784, 0x3F92D936BBE30EFD,
   0x3F992155F7A3667E, 0x3F9F693731D1CF01, 0x3FA2D865759455CD, 0x3FA5FC00D290CD43,
   0x3FA91F65F10DD814, 0x3FAC428D12C0D7E3, 0x3FAF656E79F820E0, 0x3FB1440134D709B3,
   0x3FB2D52092CE19F6, 0x3FB4661179272096, 0x3FB5F6D00A9AA419, 0x3FB787586A5D5B21,
   0x3FB917A6BC29B42C, 0x3FBAA7B724495C03, 0x3FBC3785C79EC2D5, 0x3FBDC70ECBAE9FC9,
   0x3FBF564E56A9730E, 0x3FC072A047BA831D, 0x3FC139F0CEDAF577, 0x3FC20116D4EC7BCF,
   0x3FC2C8106E8E613A, 0x3FC38EDBB0CD8D14, 0x3FC45576B1293E5A, 0x3FC51BDF8597C5F2,
   0x3FC5E214448B3FC6, 0x3FC6A81304F64AB2, 0x3FC76DD9DE50BF31, 0x3FC83366E89C64C6]

/-- `SINQ[32..63]` (R110). -/
def sinqRows1 : List Nat :=
  [0x3FC8F8B83C69A60B, 0x3FC9BDCBF2DC4366, 0x3FCA82A025B00451, 0x3FCB4732EF3D6722,
   0x3FCC0B826A7E4F63, 0x3FCCCF8CB312B286, 0x3FCD934FE5454311, 0x3FCE56CA1E101A1B,
   0x3FCF19F97B215F1B, 0x3FCFDCDC1ADFEDF9, 0x3FD04FB80E37FDAE, 0x3FD0B0D9CFDBDB90,
   0x3FD111D262B1F677, 0x3FD172A0D7765177, 0x3FD1D3443F4CDB3E, 0x3FD233BBABC3BB71,
   0x3FD294062ED59F06, 0x3FD2F422DAEC0387, 0x3FD35410C2E18152, 0x3FD3B3CEFA0414B7,
   0x3FD4135C94176601, 0x3FD472B8A5571054, 0x3FD4D1E24278E76A, 0x3FD530D880AF3C24,
   0x3FD58F9A75AB1FDD, 0x3FD5EE27379EA693, 0x3FD64C7DDD3F27C6, 0x3FD6AA9D7DC77E17,
   0x3FD7088530FA459F, 0x3FD766340F2418F6, 0x3FD7C3A9311DCCE7, 0x3FD820E3B04EAAC4]

/-- `SINQ[64..95]` (R110). -/
def sinqRows2 : List Nat :=
  [0x3FD87DE2A6AEA963, 0x3FD8DAA52EC8A4B0, 0x3FD9372A63BC93D7, 0x3FD993716141BDFF,
   0x3FD9EF7943A8ED8A, 0x3FDA4B4127DEA1E5, 0x3FDAA6C82B6D3FCA, 0x3FDB020D6C7F4009,
   0x3FDB5D1009E15CC0, 0x3FDBB7CF2304BD01, 0x3FDC1249D8011EE7, 0x3FDC6C7F4997000B,
   0x3FDCC66E9931C45E, 0x3FDD2016E8E9DB5B, 0x3FDD79775B86E389, 0x3FDDD28F1481CC58,
   0x3FDE2B5D3806F63B, 0x3FDE83E0EAF85114, 0x3FDEDC1952EF78D6, 0x3FDF3405963FD067,
   0x3FDF8BA4DBF89ABA, 0x3FDFE2F64BE71210, 0x3FE01CFC874C3EB7, 0x3FE0485626AE221A,
   0x3FE073879922FFEE, 0x3FE09E907417C5E1, 0x3FE0C9704D5D898F, 0x3FE0F426BB2A8E7E,
   0x3FE11EB3541B4B23, 0x3FE14915AF336CEB, 0x3FE1734D63DEDB49, 0x3FE19D5A09F2B9B8]

/-- `SINQ[96..127]` (R110). -/
def sinqRows3 : List Nat :=
  [0x3FE1C73B39AE68C8, 0x3FE1F0F08BBC861B, 0x3FE21A799933EB59, 0x3FE243D5FB98AC1F,
   0x3FE26D054CDD12DF, 0x3FE2960727629CA8, 0x3FE2BEDB25FAF3EA, 0x3FE2E780E3E8EA17,
   0x3FE30FF7FCE17035, 0x3FE338400D0C8E57, 0x3FE36058B10659F3, 0x3FE3884185DFEB22,
   0x3FE3AFFA292050B9, 0x3FE3D78238C58344, 0x3FE3FED9534556D4, 0x3FE425FF178E6BB1,
   0x3FE44CF325091DD6, 0x3FE473B51B987347, 0x3FE49A449B9B0939, 0x3FE4C0A145EC0004,
   0x3FE4E6CABBE3E5E9, 0x3FE50CC09F59A09B, 0x3FE5328292A35596, 0x3FE5581038975137,
   0x3FE57D69348CECA0, 0x3FE5A28D2A5D7250, 0x3FE5C77BBE65018C, 0x3FE5EC3495837074,
   0x3FE610B7551D2CDF, 0x3FE63503A31C1BE9, 0x3FE6591925F0783D, 0x3FE67CF78491AF10]

/-- `SINQ[128..159]` (R110). -/
def sinqRows4 : List Nat :=
  [0x3FE6A09E667F3BCD, 0x3FE6C40D73C18275, 0x3FE6E74454EAA8AF, 0x3FE70A42B3176D7A,
   0x3FE72D0837EFFF96, 0x3FE74F948DA8D28D, 0x3FE771E75F037261, 0x3FE79400574F55E5,
   0x3FE7B5DF226AAFAF, 0x3FE7D7836CC33DB2, 0x3FE7F8ECE3571771, 0x3FE81A1B33B57ACC,
   0x3FE83B0E0BFF976E, 0x3FE85BC51AE958CC, 0x3FE87C400FBA2EBF, 0x3FE89C7E9A4DD4AA,
   0x3FE8BC806B151741, 0x3FE8DC45331698CC, 0x3FE8FBCCA3EF940D, 0x3FE91B166FD49DA2,
   0x3FE93A22499263FB, 0x3FE958EFE48E6DD7, 0x3FE9777EF4C7D742, 0x3FE995CF2ED80D22,
   0x3FE9B3E047F38741, 0x3FE9D1B1F5EA80D5, 0x3FE9EF43EF29AF94, 0x3FEA0C95EABAF937,
   0x3FEA29A7A0462782, 0x3FEA4678C8119AC8, 0x3FEA63091B02FAE2, 0x3FEA7F58529FE69D]

/-- `SINQ[160..191]` (R110). -/
def sinqRows5 : List Nat :=
  [0x3FEA9B66290EA1A3, 0x3FEAB7325916C0D4, 0x3FEAD2BC9E21D511, 0x3FEAEE04B43C1474,
   0x3FEB090A58150200, 0x3FEB23CD470013B4, 0x3FEB3E4D3EF55712, 0x3FEB5889FE921405,
   0x3FEB728345196E3E, 0x3FEB8C38D27504E9, 0x3FEBA5AA673590D2, 0x3FEBBED7C49380EA,
   0x3FEBD7C0AC6F952A, 0x3FEBF064E15377DD, 0x3FEC08C426725549, 0x3FEC20DE3FA971B0,
   0x3FEC38B2F180BDB1, 0x3FEC5042012B6907, 0x3FEC678B3488739B, 0x3FEC7E8E52233CF3,
   0x3FEC954B213411F5, 0x3FECABC169A0B900, 0x3FECC1F0F3FCFC5C, 0x3FECD7D9898B32F6,
   0x3FECED7AF43CC773, 0x3FED02D4FEB2BD92, 0x3FED17E7743E35DC, 0x3FED2CB220E0EF9F,
   0x3FED4134D14DC93A, 0x3FED556F52E93EB1, 0x3FED696173C9E68B, 0x3FED7D0B02B8ECF9]

/-- `SINQ[192..223]` (R110). -/
def sinqRows6 : List Nat :=
  [0x3FED906BCF328D46, 0x3FEDA383A9668988, 0x3FEDB6526238A09B, 0x3FEDC8D7CB410260,
   0x3FEDDB13B6CCC23C, 0x3FEDED05F7DE47DA, 0x3FEDFEAE622DBE2B, 0x3FEE100CCA2980AC,
   0x3FEE212104F686E5, 0x3FEE31EAE870CE25, 0x3FEE426A4B2BC17E, 0x3FEE529F04729FFC,
   0x3FEE6288EC48E112, 0x3FEE7227DB6A9744, 0x3FEE817BAB4CD10D, 0x3FEE9084361DF7F2,
   0x3FEE9F4156C62DDA, 0x3FEEADB2E8E7A88E, 0x3FEEBBD8C8DF0B74, 0x3FEEC9B2D3C3BF84,
   0x3FEED740E7684963, 0x3FEEE482E25A9DBC, 0x3FEEF178A3E473C2, 0x3FEEFE220C0B95EC,
   0x3FEF0A7EFB9230D7, 0x3FEF168F53F7205D, 0x3FEF2252F7763ADA, 0x3FEF2DC9C9089A9D,
   0x3FEF38F3AC64E589, 0x3FEF43D085FF92DD, 0x3FEF4E603B0B2F2D, 0x3FEF58A2B1789E84]

/-- `SINQ[224..256]` (R110). -/
def sinqRows7 : List Nat :=
  [0x3FEF6297CFF75CB0, 0x3FEF6C3F7DF5BBB7, 0x3FEF7599A3A12077, 0x3FEF7EA629E63D6E,
   0x3FEF8764FA714BA9, 0x3FEF8FD5FFAE41DB, 0x3FEF97F924C9099B, 0x3FEF9FCE55ADB2C8,
   0x3FEFA7557F08A517, 0x3FEFAE8E8E46CFBB, 0x3FEFB5797195D741, 0x3FEFBC1617E44186,
   0x3FEFC26470E19FD3, 0x3FEFC8646CFEB721, 0x3FEFCE15FD6DA67B, 0x3FEFD37914220B84,
   0x3FEFD88DA3D12526, 0x3FEFDD539FF1F456, 0x3FEFE1CAFCBD5B09, 0x3FEFE5F3AF2E3940,
   0x3FEFE9CDAD01883A, 0x3FEFED58ECB673C4, 0x3FEFF095658E71AD, 0x3FEFF3830F8D575C,
   0x3FEFF621E3796D7E, 0x3FEFF871DADB81DF, 0x3FEFFA72EFFEF75D, 0x3FEFFC251DF1D3F8,
   0x3FEFFD886084CD0D, 0x3FEFFE9CB44B51A1, 0x3FEFFF62169B92DB, 0x3FEFFFD8858E8A92,
   0x3FF0000000000000]
/-- The reference ROM, `SINQ[0..256]` as bit patterns (R110). -/
def sinqTable : List Nat :=
  sinqRows0 ++ sinqRows1 ++ sinqRows2 ++ sinqRows3 ++ sinqRows4 ++ sinqRows5 ++ sinqRows6 ++ sinqRows7

/-- The cosine of `r` turns out of `2^l` is not negative: the first or the fourth quadrant. -/
def cosNonneg (l r : Nat) : Bool := decide (4 * (r % 2 ^ l) ≤ 2 ^ l ∨ 3 * 2 ^ l ≤ 4 * (r % 2 ^ l))

/-- `2 * cos(2*pi * r / 2^l)` at scale `2^w` as an interval, by half angles: `2cos(t/2) = ± sqrt(2 + 2cos t)`, the sign being
that of the quadrant. -/
def twoCosBounds (w : Nat) : Nat → Nat → Int × Int
  | 0, _ => (2 ^ (w + 1), 2 ^ (w + 1))
  | l + 1, r =>
    let b := twoCosBounds w l r
    let lo : Int := F64.isqrt ((2 ^ (w + 1) + b.1).toNat * 2 ^ w)
    let hi : Int := F64.isqrt ((2 ^ (w + 1) + b.2).toNat * 2 ^ w) + 1
    if cosNonneg (l + 1) r then (lo, hi) else (-hi, -lo)

/-- `cos(2*pi * r / 2^l)` compared with `num / den`, exactly, by doubling the angle: `cos 2t = 2 cos^2 t - 1`. -/
def cosCompare : Nat → Nat → Int → Nat → Ordering
  | 0, _, num, den => compare (den : Int) num
  | l + 1, r, num, den =>
    let doubled := cosCompare l r (2 * num ^ 2 - (den : Int) ^ 2) (den ^ 2)
    if cosNonneg (l + 1) r then (if num < 0 then .gt else doubled)
    else if 0 ≤ num then .lt else doubled.swap

/-- The greatest number up to `n` that is at most `2^p * sin(2*pi * q / 2^l)`, for `q` in the first quarter. -/
def sinFloorUpTo (p l q : Nat) : Nat → Nat
  | 0 => 0
  | n + 1 => if cosCompare l (2 ^ l / 4 - q) (n + 1 : Nat) (2 ^ p) = .lt then sinFloorUpTo p l q n else n + 1

/-- The floor of `2^p * sin(2*pi * q / 2^l)` for `q` in the first quarter: the interval's answer where both ends agree, else
an exact search, far too long to evaluate. -/
def sinFloor (p l q : Nat) : Nat :=
  let b := twoCosBounds (p + 128 + l) l (2 ^ l / 4 - q)
  let lo := b.1.toNat / 2 ^ (129 + l)
  if lo = b.2.toNat / 2 ^ (129 + l) then lo else sinFloorUpTo p l q (2 ^ p)

/-- `SINQ[q]` for `N = 2^l` from its definition, "the `NUM` nearest to the real number `sin(2*pi*q/N)`" (R48). With
`p = 65 + l` fraction bits the value, irrational for `0 < q < N/4`, lies strictly between two neighbouring multiples of
`2^-p`, and the middle rounds as it does (DEDUCED, notes/assumptions/9.md). -/
def sinqComputed (l q : Nat) : Num64 :=
  if q = 0 then F64.posZero
  else if 4 * q = 2 ^ l then F64.one
  else F64.mk false (F64.roundMag ((2 * sinFloor (65 + l) l q + 1) * 2 ^ 1074) (2 ^ (66 + l)))

/-- `SINQ[q]` of the ROM with `N = 2^lutBits` (R48, R110). -/
def sinq (lutBits q : Nat) : Num64 :=
  if lutBits = 10 then BitVec.ofNat 64 (sinqTable.getD q 0) else sinqComputed lutBits q

end Sys2Proof.Machine
end

