-- ==== Sys2Proof/Machine/Trig.lean ====
section
/-! DEFINITION. The sine/cosine look-up unit and the hard clip (40_function_units.md R107 to R109, R111, R112). `lutBits` is the
configuration's `LUT_BITS`, `N = 2^lutBits`. -/

namespace Sys2Proof.Machine

/-- `WAVE(i)`, `0 <= i < N`: the full wave rebuilt from the quarter table (R111). -/
def wave (lutBits i : Nat) : Num64 :=
  let quarter := 2 ^ lutBits / 4
  let r := i % quarter
  match i / quarter with
  | 0 => sinq lutBits r
  | 1 => sinq lutBits (quarter - r)
  | 2 => F64.sub F64.posZero (sinq lutBits r)
  | _ => F64.sub F64.posZero (sinq lutBits (quarter - r))

/-- `SIN2PI(p)`: the sine of `p` turns, by linear interpolation (R107). -/
def sin2pi (lutBits : Nat) (p : Num64) : Num64 :=
  if F64.isFinite p then
    let t := F64.sub p (F64.ofInt (F64.floor p))
    let s := F64.mul t (F64.ofNat (2 ^ lutBits))
    let i := (F64.floor s).toNat
    let phi := F64.sub s (F64.ofNat i)
    let v0 := wave lutBits (i % 2 ^ lutBits)
    let v1 := wave lutBits ((i + 1) % 2 ^ lutBits)
    F64.add v0 (F64.mul phi (F64.sub v1 v0))
  else F64.qNaN

/-- `COS2PI(p) = SIN2PI(p + 0.25)` (R108). -/
def cos2pi (lutBits : Nat) (p : Num64) : Num64 := sin2pi lutBits (F64.add p F64.quarter)

/-- `TANW(f)`: the pre-warped frequency at sample rate `srate` (R112). -/
def tanw (lutBits : Nat) (srate f : Num64) : Num64 :=
  let x := F64.div (F64.div f srate) F64.two
  F64.div (sin2pi lutBits x) (cos2pi lutBits x)

/-- `CLIP(v)`: the hard clip to `[-1, 1]`; NaN gives `+0` (R109). -/
def clip (v : Num64) : Num64 :=
  if F64.isNaN v then F64.posZero
  else if F64.lt F64.one v then F64.one
  else if F64.lt v F64.negOne then F64.negOne
  else v

end Sys2Proof.Machine
end

