-- ==== Sys2Proof/Machine/Butterworth.lean ====
section
/-! DEFINITION. `BW`, the Butterworth calculator, its biquad core and the three wrappers (44_butterworth.md R180 to R193). -/

namespace Sys2Proof.Machine

/-- The pass and stop specification of a design that passed R181, with the pre-warped edges. -/
structure BwEdges where
  wp : Num64
  ws : Num64
  /-- Highpass: the stop band lies below the pass band (R182). -/
  hp : Bool
  /-- `es = 1/hstop^2 - 1` (R182). -/
  es : Num64
  /-- The real-valued order `nr` (R182). -/
  nr : Num64
deriving DecidableEq, Repr

/-- `0 < v and v < hi`. -/
def strictlyBetween (hi v : Num64) : Bool := F64.lt F64.posZero v && F64.lt v hi

/-- Step 1, the range checks in their order (R181); the pre-warped `(wp, ws)` when all pass. -/
def bwValidate (lutBits : Nat) (srate fpass fstop hpass hstop : Num64) : Except (ErrCause × Num64) (Num64 × Num64) :=
  let nyq := F64.div srate F64.two
  let wp := tanw lutBits srate fpass
  let ws := tanw lutBits srate fstop
  if !strictlyBetween nyq fpass then .error (.bwFpass, fpass)
  else if !strictlyBetween nyq fstop then .error (.bwFstop, fstop)
  else if F64.feq fpass fstop then .error (.bwFeq, fstop)
  else if !strictlyBetween F64.one hpass then .error (.bwHpass, hpass)
  else if !strictlyBetween F64.one hstop then .error (.bwHstop, hstop)
  else if !(F64.isFinite wp && F64.lt F64.posZero wp) then .error (.bwWarp, fpass)
  else if !(F64.isFinite ws && F64.lt F64.posZero ws) then .error (.bwWarp, fstop)
  else .ok (wp, ws)

/-- `1 / (h * h) - 1` (R182). -/
def bwEps (h : Num64) : Num64 := F64.sub (F64.div F64.one (F64.mul h h)) F64.one

/-- Step 2, classification and the real-valued order (R182). -/
def bwOrderReal (hp : Bool) (wp ws ep es : Num64) : Num64 :=
  let ratio := if hp then F64.div wp ws else F64.div ws wp
  F64.div (F64.log2 (F64.div es ep)) (F64.mul F64.two (F64.log2 ratio))

/-- Step 3, the order: the ceiling, at least 2, made even (R183). -/
def bwOrderEven (nr : Num64) : Nat :=
  let n := (F64.ceil nr).toNat
  let n2 := if n < 2 then 2 else n
  if n2 % 2 = 1 then n2 + 1 else n2

/-- Step 4, the cutoff as a pre-warped value (R184). -/
def bwCutoff (hp : Bool) (ws es : Num64) (n : Nat) : Num64 :=
  let e := F64.div F64.one (F64.mul F64.two (F64.ofNat n))
  let g := F64.exp2 (F64.mul (F64.log2 es) e)
  if hp then F64.mul ws g else F64.div ws g

/-- Step 5, the biquad of pole pair `k` (R185). -/
def bwBiquad (lutBits : Nat) (hp : Bool) (wc : Num64) (n k : Nat) : BwCoefs :=
  let sn := sin2pi lutBits (F64.div (F64.ofNat (2 * k - 1)) (F64.ofNat (4 * n)))
  let w2 := F64.mul wc wc
  let tw := F64.mul (F64.mul F64.two wc) sn
  let d := F64.add (F64.add F64.one tw) w2
  let a0 := if hp then F64.div F64.one d else F64.div w2 d
  let a1 := if hp then F64.sub F64.posZero (F64.mul F64.two a0) else F64.mul F64.two a0
  { a0 := a0
    a1 := a1
    a2 := a0
    b1 := F64.div (F64.mul F64.two (F64.sub w2 F64.one)) d
    b2 := F64.div (F64.add (F64.sub F64.one tw) w2) d
    n := BitVec.ofNat 32 n
    wc := wc
    hp := if hp then 1 else 0 }

/-- `BW_DESIGN(fpass, fstop, hpass, hstop)` (R180): the five steps in order. The loop of step 5 keeps only its last iteration,
`k = 1`, which is computed alone (R185; DEDUCED, notes/assumptions/20.md). -/
def bwDesign (c : Config) (srate fpass fstop hpass hstop : Num64) : Except (ErrCause × Num64) BwCoefs :=
  match bwValidate c.lutBits srate fpass fstop hpass hstop with
  | .error e => .error e
  | .ok (wp, ws) =>
    let hp := F64.lt fstop fpass
    let es := bwEps hstop
    let nr := bwOrderReal hp wp ws (bwEps hpass) es
    if !F64.isFinite nr || F64.lt (F64.ofNat c.bwOrderMax) nr then .error (.bwOrder, nr)
    else
      let n := bwOrderEven nr
      .ok (bwBiquad c.lutBits hp (bwCutoff hp ws es n) n 1)

/-- `fstop` of the lowpass wrapper: `cutoff + cutoff / sharpness` (R187). -/
def bwFstopAbove (cutoff sharpness : Num64) : Num64 := F64.add cutoff (F64.div cutoff sharpness)

/-- `fstop` of the highpass wrapper: `cutoff - cutoff / sharpness` (R188). -/
def bwFstopBelow (cutoff sharpness : Num64) : Num64 := F64.sub cutoff (F64.div cutoff sharpness)

/-- The design of a wrapper: `hpass = 0.95`, `hstop = 0.05` (R187 to R189). -/
def bwWrapDesign (c : Config) (srate cutoff fstop : Num64) : Except (ErrCause × Num64) BwCoefs :=
  bwDesign c srate cutoff fstop c095 c005

/-- The band-pass wrapper's two designs, the highpass one first (R189). -/
def bwBandDesign (c : Config) (srate cutoff sharpness : Num64) : Except (ErrCause × Num64) (BwCoefs × BwCoefs) :=
  match bwWrapDesign c srate cutoff (bwFstopBelow cutoff sharpness) with
  | .error e => .error e
  | .ok d0 =>
    match bwWrapDesign c srate cutoff (bwFstopAbove cutoff sharpness) with
    | .error e => .error e
    | .ok d1 => .ok (d0, d1)

/-- `SEC_STEP(s, x)` (R192). -/
def secStep (sec : BwSection) (x : Num64) : Num64 × BwSection :=
  let c := sec.coefs
  let y := F64.sub
    (F64.sub (F64.add (F64.add (F64.mul c.a0 x) (F64.mul c.a1 sec.x1)) (F64.mul c.a2 sec.x2)) (F64.mul c.b1 sec.y1))
    (F64.mul c.b2 sec.y2)
  (y, { sec with x1 := x, x2 := sec.x1, y1 := y, y2 := sec.y1 })

/-- `BW_MODE` values (10_state.md R44). -/
def bwModeRaw : Word32 := 0
def bwModeLp : Word32 := 1
def bwModeHp : Word32 := 2
def bwModeBp : Word32 := 3

/-- `BW.PROC` step 3 (R190): section 0, in mode `BP` also section 1; the gain multiplies the result only. -/
def bwProcess (u : Bw) (x : Num64) : Num64 × Bw :=
  let r0 := secStep u.s0 x
  if u.mode = bwModeBp then
    let r1 := secStep u.s1 r0.1
    (F64.mul u.gain r1.1, { u with s0 := r0.2, s1 := r1.2 })
  else (F64.mul u.gain r0.1, { u with s0 := r0.2 })

/-- A section's history zeroed (R191). -/
def secReset (sec : BwSection) : BwSection :=
  { sec with x1 := F64.posZero, x2 := F64.posZero, y1 := F64.posZero, y2 := F64.posZero }

/-- Both sections' histories zeroed (R191). -/
def bwReset (u : Bw) : Bw := { u with s0 := secReset u.s0, s1 := secReset u.s1 }

/-- Section 0 takes a design; mode and gain with it (R186 to R188). -/
def bwStore (mode : Word32) (gain : Num64) (d : BwCoefs) (s : State) : State :=
  ({ s with bw := { s.bw with mode := mode, gain := gain, s0 := { s.bw.s0 with coefs := d } } }).markConfigured .bw

/-- Both sections take a design (R189). -/
def bwStoreBand (gain : Num64) (d : BwCoefs × BwCoefs) (s : State) : State :=
  ({ s with bw :=
    { mode := bwModeBp, gain := gain, s0 := { s.bw.s0 with coefs := d.1 }, s1 := { s.bw.s1 with coefs := d.2 } }
  }).markConfigured .bw

/-- `BW.CFG` (R186). -/
def execBwCfg (s : State) : Host.Outcome State Fault Refusal :=
  .next (whenValid .bwCfg s (bwDesign s.conf s.srate (arg0 s) (arg1 s) (arg2 s) (arg3 s)) fun d =>
    bwStore bwModeRaw F64.one d s)

/-- `BW.CFGLP` (R187). -/
def execBwCfgLp (s : State) : Host.Outcome State Fault Refusal :=
  .next (whenValid .bwCfgLp s (bwWrapDesign s.conf s.srate (arg0 s) (bwFstopAbove (arg0 s) (arg2 s))) fun d =>
    bwStore bwModeLp (arg1 s) d s)

/-- `BW.CFGHP` (R188). -/
def execBwCfgHp (s : State) : Host.Outcome State Fault Refusal :=
  .next (whenValid .bwCfgHp s (bwWrapDesign s.conf s.srate (arg0 s) (bwFstopBelow (arg0 s) (arg2 s))) fun d =>
    bwStore bwModeHp (arg1 s) d s)

/-- `BW.CFGBP` (R189). -/
def execBwCfgBp (s : State) : Host.Outcome State Fault Refusal :=
  .next (whenValid .bwCfgBp s (bwBandDesign s.conf s.srate (arg0 s) (arg2 s)) fun d => bwStoreBand (arg1 s) d s)

/-- `BW.PROC` (R190). -/
def execBwProc (iny : Bool) (s : State) : Host.Outcome State Fault Refusal :=
  let r := bwProcess s.bw (inputSample iny s)
  .next (whenConfigured .bw (.bwProc iny) s ({ s with bw := r.2 }.writeY r.1))

/-- `BW.RST` (R191). -/
def execBwRst (s : State) : Host.Outcome State Fault Refusal :=
  .next { s with bw := bwReset s.bw }

end Sys2Proof.Machine
end

