-- ==== Sys2Proof/Machine/MoogLadder.lean ====
section
/-! DEFINITION. `MOOG`, the four-pole ladder filter (43_moog.md R170 to R173). -/

namespace Sys2Proof.Machine

/-- The coefficients of `MOOG.CFG` (R170) for a frequency and a resonance, on a unit whose history is kept. -/
def moogConfigure (srate : Num64) (u : Moog) (freqHz res : Num64) : Moog :=
  let fh := if F64.le F64.posZero freqHz then freqHz else F64.posZero
  let raw := F64.div (F64.mul numTwoPi fh) srate
  let f := if F64.lt numPi raw then numPi else raw
  let sqf := F64.mul f f
  { u with
    f := f
    af := F64.sub F64.one f
    sqf := sqf
    fb := F64.mul res (F64.sub F64.one (F64.mul c015 sqf))
    res := res }

/-- One stage (R172): `o = (u + 0.3 * IN) + AF * OUT` of the old history; the stage then holds `u` and `o`. -/
def stageStep (af : Num64) (st : Stage) (u : Num64) : Stage :=
  { prevIn := u
    prevOut := F64.add (F64.add u (F64.mul c03 st.prevIn)) (F64.mul af st.prevOut) }

/-- The scaled input of stage 1 (R172): global feedback from the previous sample's `OUT[4]`, then the input scale. -/
def ladderInput (u : Moog) (x : Num64) : Num64 :=
  F64.mul (F64.sub x (F64.mul u.st4.prevOut u.fb)) (F64.mul c035013 (F64.mul u.sqf u.sqf))

/-- `MOOG.PROC` step 3 (R172): the clip acts on the result only. -/
def moogProcess (sat : Bool) (u : Moog) (x : Num64) : Num64 × Moog :=
  let s1 := stageStep u.af u.st1 (ladderInput u x)
  let s2 := stageStep u.af u.st2 s1.prevOut
  let s3 := stageStep u.af u.st3 s2.prevOut
  let s4 := stageStep u.af u.st4 s3.prevOut
  (if sat then clip s4.prevOut else s4.prevOut, { u with st1 := s1, st2 := s2, st3 := s3, st4 := s4 })

/-- All eight history cells zeroed (R173). -/
def moogReset (u : Moog) : Moog :=
  { u with st1 := Stage.zero, st2 := Stage.zero, st3 := Stage.zero, st4 := Stage.zero }

/-- `MOOG.CFG` (R170): every `NUM` is accepted. -/
def execMoogCfg (s : State) : Host.Outcome State Fault Refusal :=
  .next (({ s with moog := moogConfigure s.srate s.moog (arg0 s) (arg1 s) }).markConfigured .moog)

/-- `MOOG.PROC` (R172). -/
def execMoogProc (sat iny : Bool) (s : State) : Host.Outcome State Fault Refusal :=
  let r := moogProcess sat s.moog (inputSample iny s)
  .next (whenConfigured .moog (.moogProc sat iny) s ({ s with moog := r.2 }.writeY r.1))

/-- `MOOG.RST` (R173). -/
def execMoogRst (s : State) : Host.Outcome State Fault Refusal :=
  .next { s with moog := moogReset s.moog }

end Sys2Proof.Machine
end

