-- ==== Sys2Proof/Machine/Primitives.lean ====
section
/-! DEFINITION. The primitive filters `LP1`, `DCR` and `IIR3` (42_primitives.md R144 to R150). Each `…Process` is step 3 of the unit's
`PROC`: it takes the unit and the input sample and gives the result and the new unit. -/

namespace Sys2Proof.Machine

/-- `LP1.PROC` step 3 (R145). -/
def lp1Process (u : Lp1) (x : Num64) : Num64 × Lp1 :=
  let mem := F64.add (F64.mul u.k x) (F64.mul (F64.sub F64.one u.k) u.mem)
  (mem, { u with mem := mem })

/-- The unit's history zeroed (R146). -/
def lp1Reset (u : Lp1) : Lp1 := { u with mem := F64.posZero }

/-- `DCR.PROC` step 3 (R147): the updated average is subtracted. -/
def dcrProcess (u : Dcr) (x : Num64) : Num64 × Dcr :=
  let mem := F64.add (F64.mul c001 x) (F64.mul c099 u.mem)
  (F64.sub x mem, { u with mem := mem })

/-- The unit's history zeroed (R148). -/
def dcrReset (u : Dcr) : Dcr := { u with mem := F64.posZero }

/-- `IIR3.PROC` step 3 (R149), with the constants of the configuration record. -/
def iir3Process (c : Config) (u : Iir3) (x : Num64) : Num64 × Iir3 :=
  let y := F64.mul c.iir3Amp
    (F64.add (F64.add (F64.mul c.iir3Cx x) (F64.mul c.iir3Cy1 u.y1)) (F64.mul c.iir3Cy2 u.y2))
  (y, { y1 := y, y2 := u.y1 })

/-- The unit's history zeroed (R150). -/
def iir3Reset (_ : Iir3) : Iir3 := { y1 := F64.posZero, y2 := F64.posZero }

/-- The check of `LP1.CFG`: `0 < k <= 1` (R144). -/
def lp1Check (k : Num64) : Except (ErrCause × Num64) Num64 :=
  if F64.lt F64.posZero k && F64.le k F64.one then .ok k else .error (.lp1K, k)

/-- `LP1.CFG` (R144). -/
def execLp1Cfg (s : State) : Host.Outcome State Fault Refusal :=
  .next (whenValid .lp1Cfg s (lp1Check (arg0 s)) fun k =>
    ({ s with lp1 := { s.lp1 with k := k } }).markConfigured .lp1)

/-- `LP1.PROC` (R145). -/
def execLp1Proc (iny : Bool) (s : State) : Host.Outcome State Fault Refusal :=
  let r := lp1Process s.lp1 (inputSample iny s)
  .next (whenConfigured .lp1 (.lp1Proc iny) s ({ s with lp1 := r.2 }.writeY r.1))

/-- `LP1.RST` (R146). -/
def execLp1Rst (s : State) : Host.Outcome State Fault Refusal :=
  .next { s with lp1 := lp1Reset s.lp1 }

/-- `DCR.PROC` (R147): needs no configuration. -/
def execDcrProc (iny : Bool) (s : State) : Host.Outcome State Fault Refusal :=
  let r := dcrProcess s.dcr (inputSample iny s)
  .next ({ s with dcr := r.2 }.writeY r.1)

/-- `DCR.RST` (R148). -/
def execDcrRst (s : State) : Host.Outcome State Fault Refusal :=
  .next { s with dcr := dcrReset s.dcr }

/-- `IIR3.PROC` (R149): needs no configuration. -/
def execIir3Proc (iny : Bool) (s : State) : Host.Outcome State Fault Refusal :=
  let r := iir3Process s.conf s.iir3 (inputSample iny s)
  .next ({ s with iir3 := r.2 }.writeY r.1)

/-- `IIR3.RST` (R150). -/
def execIir3Rst (s : State) : Host.Outcome State Fault Refusal :=
  .next { s with iir3 := iir3Reset s.iir3 }

end Sys2Proof.Machine
end

