-- ==== Sys2Proof/Machine/Rc.lean ====
section
/-! DEFINITION. The RC filters `RCLP` and `RCBP` (42_primitives.md R151 to R157). -/

namespace Sys2Proof.Machine

/-- `RC_SET(L, f)` (R151): the coefficients of one leg at sample rate `srate`; 0 Hz, and NaN, is the clamp floor. -/
def rcSet (srate : Num64) (l : RcLeg) (f : Num64) : RcLeg :=
  let dt := F64.div F64.one srate
  if F64.lt F64.posZero f then
    let rc := F64.div F64.one (F64.mul numTwoPi f)
    { l with dt := dt, rc := rc, alpha := F64.div dt (F64.add rc dt) }
  else { l with dt := dt, rc := F64.posInf, alpha := F64.posZero }

/-- `RC_STEP(L, x)` (R151): the new `LAST` and the leg that holds it. -/
def rcStep (l : RcLeg) (x : Num64) : Num64 × RcLeg :=
  let last := F64.add l.last (F64.mul l.alpha (F64.sub x l.last))
  (last, { l with last := last })

/-- The leg's history zeroed (R154, R157). -/
def rcReset (l : RcLeg) : RcLeg := { l with last := F64.posZero }

/-- `RCLP.PROC` step 3 (R153). -/
def rclpProcess (u : RcLeg) (x : Num64) : Num64 × RcLeg := rcStep u x

/-- `RCBP.PROC` step 3 (R156): the input minus its RC lowpass feeds the lowpass leg. -/
def rcbpProcess (u : Rcbp) (x : Num64) : Num64 × Rcbp :=
  let l := rcStep u.hp x
  let h := F64.sub x l.1
  let y := rcStep u.lp h
  (y.1, { hp := l.2, lp := y.2 })

/-- Both legs' histories zeroed (R157). -/
def rcbpReset (u : Rcbp) : Rcbp := { hp := rcReset u.hp, lp := rcReset u.lp }

/-- `RCLP.CFG` (R152): no cutoff is refused. -/
def execRclpCfg (s : State) : Host.Outcome State Fault Refusal :=
  .next (({ s with rclp := rcSet s.srate s.rclp (arg0 s) }).markConfigured .rclp)

/-- `RCLP.PROC` (R153). -/
def execRclpProc (iny : Bool) (s : State) : Host.Outcome State Fault Refusal :=
  let r := rclpProcess s.rclp (inputSample iny s)
  .next (whenConfigured .rclp (.rclpProc iny) s ({ s with rclp := r.2 }.writeY r.1))

/-- `RCLP.RST` (R154). -/
def execRclpRst (s : State) : Host.Outcome State Fault Refusal :=
  .next { s with rclp := rcReset s.rclp }

/-- `RCBP.CFG` (R155): the two legs are set independently. -/
def execRcbpCfg (s : State) : Host.Outcome State Fault Refusal :=
  .next (({ s with rcbp :=
    { hp := rcSet s.srate s.rcbp.hp (arg0 s), lp := rcSet s.srate s.rcbp.lp (arg1 s) } }).markConfigured .rcbp)

/-- `RCBP.PROC` (R156). -/
def execRcbpProc (iny : Bool) (s : State) : Host.Outcome State Fault Refusal :=
  let r := rcbpProcess s.rcbp (inputSample iny s)
  .next (whenConfigured .rcbp (.rcbpProc iny) s ({ s with rcbp := r.2 }.writeY r.1))

/-- `RCBP.RST` (R157). -/
def execRcbpRst (s : State) : Host.Outcome State Fault Refusal :=
  .next { s with rcbp := rcbpReset s.rcbp }

end Sys2Proof.Machine
end

