-- ==== Sys2Proof/Machine/DelayLine.lean ====
section
/-! DEFINITION. `DELAY`, the delay line with feedback, its side-chains and the legacy single-cell mode (46_delay.md R215 to R221). -/

namespace Sys2Proof.Machine

/-- `pop()` on the history (R215): the oldest element and the rest. The rules never pop an empty history; `+0` stands there
(DESIGN CHOICE, notes/assumptions/13.md). -/
def fifoPop : List Num64 → Num64 × List Num64
  | [] => (F64.posZero, [])
  | v :: rest => (v, rest)

/-- `push(v)` (R215): `v` becomes the newest element. -/
def fifoPush (fifo : List Num64) (v : Num64) : List Num64 := fifo ++ [v]

/-- `DELAY_LEN`: the length of `FIFO` (10_state.md R46). -/
def Delay.len (d : Delay) : Nat := d.fifo.length

/-- The sample delayed by `DELAY_N` calls and the history without it: the oldest when `DELAY_LEN = DELAY_N`, else `+0` (R218). -/
def delayTake (d : Delay) : Num64 × List Num64 :=
  if d.len = d.n.toNat then fifoPop d.fifo else (F64.posZero, d.fifo)

/-- The running total: `x + DELAY_FB * d` (R218). -/
def delayTotal (d : Delay) (x : Num64) : Num64 := F64.add x (F64.mul d.fb (delayTake d).1)

/-- `process_SC(t)` (R221): step 3 of the named unit's `PROC`; the value it returns and the state with that unit's new history. -/
def sideProcess (sc : SideChain) (sat : Bool) (t : Num64) (s : State) : Num64 × State :=
  match sc with
  | .lp1 => let r := lp1Process s.lp1 t; (r.1, { s with lp1 := r.2 })
  | .dcr => let r := dcrProcess s.dcr t; (r.1, { s with dcr := r.2 })
  | .iir3 => let r := iir3Process s.conf s.iir3 t; (r.1, { s with iir3 := r.2 })
  | .rclp => let r := rclpProcess s.rclp t; (r.1, { s with rclp := r.2 })
  | .rcbp => let r := rcbpProcess s.rcbp t; (r.1, { s with rcbp := r.2 })
  | .moog => let r := moogProcess sat s.moog t; (r.1, { s with moog := r.2 })
  | .bw => let r := bwProcess s.bw t; (r.1, { s with bw := r.2 })

/-- The history after the total `v` of `DELAY.PROC` is pushed, and the delayed sample in `Y` (R218). -/
def delayFinish (d : Num64 × List Num64) (v : Num64) (s : State) : State :=
  ({ s with delay := { s.delay with fifo := fifoPush d.2 v } }).writeY d.1

/-- `DELAY.PROC` without a side-chain, on input `x` (R218). -/
def delayProcess (x : Num64) (s : State) : State := delayFinish (delayTake s.delay) (delayTotal s.delay x) s

/-- `DELAY.PROC` with side-chain `sc`, on input `x` (R218, R221). -/
def delayProcessSc (sc : SideChain) (sat : Bool) (x : Num64) (s : State) : State :=
  let r := sideProcess sc sat (delayTotal s.delay x) s
  delayFinish (delayTake s.delay) r.1 r.2

/-- A `DELAY.PROC` with side-chain: the delay line's own `CFGVALID` bit is checked before the side-chain's (60_exceptions.md R253). -/
def delayScCommand (sc : SideChain) (sat iny : Bool) (i : Instr) (s : State) : State :=
  whenConfigured .delay i s (whenConfigured sc.unit i s (delayProcessSc sc sat (inputSample iny s) s))

/-- `DELAY.PROCNT` step 3 (R220): the recurrence of R218 on the one cell. -/
def delayNoTime (x : Num64) (d : Delay) : Num64 × Delay :=
  (d.cell, { d with cell := F64.add x (F64.mul d.fb d.cell) })

/-- The checks of `DELAY.CFG` in their order (R217); the accepted length, floored. -/
def delayCheck (delayMax : Nat) (len fb : Num64) : Except (ErrCause × Num64) Nat :=
  if !F64.le F64.one len then .error (.dlLenNonPos, len)
  else if F64.le (F64.ofNat (delayMax + 1)) len then .error (.dlLenMax, len)
  else if !(F64.le F64.posZero fb && F64.lt fb F64.one) then .error (.dlFb, fb)
  else .ok (F64.floor len).toNat

/-- The writes of `DELAY.CFG` (R217): on shrinking, the oldest entries are dropped. -/
def delayConfigure (n : Nat) (fb : Num64) (d : Delay) : Delay :=
  { d with n := BitVec.ofNat 32 n, fb := fb, fifo := d.fifo.drop (d.len - n) }

/-- The history emptied and the cell zeroed (R219). -/
def delayReset (d : Delay) : Delay := { d with fifo := [], cell := F64.posZero }

/-- `DELAY.CFG` (R217). -/
def execDelayCfg (s : State) : Host.Outcome State Fault Refusal :=
  .next (whenValid .delayCfg s (delayCheck s.conf.delayMax (arg0 s) (arg1 s)) fun n =>
    ({ s with delay := delayConfigure n (arg1 s) s.delay }).markConfigured .delay)

/-- `DELAY.PROC` without a side-chain (R218). -/
def execDelayProc (iny : Bool) (s : State) : Host.Outcome State Fault Refusal :=
  .next (whenConfigured .delay (.delayProc iny) s (delayProcess (inputSample iny s) s))

/-- `DELAY.PROC sc=LP1` (R218, R221). -/
def execDelayProcScLp1 (iny : Bool) (s : State) : Host.Outcome State Fault Refusal :=
  .next (delayScCommand .lp1 false iny (.delayProcScLp1 iny) s)

/-- `DELAY.PROC sc=DCR` (R218, R221). -/
def execDelayProcScDcr (iny : Bool) (s : State) : Host.Outcome State Fault Refusal :=
  .next (delayScCommand .dcr false iny (.delayProcScDcr iny) s)

/-- `DELAY.PROC sc=IIR3` (R218, R221). -/
def execDelayProcScIir3 (iny : Bool) (s : State) : Host.Outcome State Fault Refusal :=
  .next (delayScCommand .iir3 false iny (.delayProcScIir3 iny) s)

/-- `DELAY.PROC sc=RCLP` (R218, R221). -/
def execDelayProcScRclp (iny : Bool) (s : State) : Host.Outcome State Fault Refusal :=
  .next (delayScCommand .rclp false iny (.delayProcScRclp iny) s)

/-- `DELAY.PROC sc=RCBP` (R218, R221). -/
def execDelayProcScRcbp (iny : Bool) (s : State) : Host.Outcome State Fault Refusal :=
  .next (delayScCommand .rcbp false iny (.delayProcScRcbp iny) s)

/-- `DELAY.PROC sc=MOOG`, its `SAT` passed to the ladder (R218, R221). -/
def execDelayProcScMoog (sat iny : Bool) (s : State) : Host.Outcome State Fault Refusal :=
  .next (delayScCommand .moog sat iny (.delayProcScMoog sat iny) s)

/-- `DELAY.PROC sc=BW` (R218, R221). -/
def execDelayProcScBw (iny : Bool) (s : State) : Host.Outcome State Fault Refusal :=
  .next (delayScCommand .bw false iny (.delayProcScBw iny) s)

/-- `DELAY.PROCNT` (R220). -/
def execDelayProcNt (iny : Bool) (s : State) : Host.Outcome State Fault Refusal :=
  let r := delayNoTime (inputSample iny s) s.delay
  .next (whenConfigured .delay (.delayProcNt iny) s ({ s with delay := r.2 }.writeY r.1))

/-- `DELAY.RST` (R219). -/
def execDelayRst (s : State) : Host.Outcome State Fault Refusal :=
  .next { s with delay := delayReset s.delay }

end Sys2Proof.Machine
end

