-- ==== Sys2Proof/Machine/AddressMap.lean ====
section
/-! DEFINITION. The address map: which named location a word address reaches, who may write it, and what it reads as
(20_memory.md R60, R63; 10_state.md R21 to R46). -/

namespace Sys2Proof.Machine

/-- The named locations of the address space (20_memory.md R60). -/
inductive Loc where
  | id | status | ien | errcode | errinfo | errval | cmd | cfgvalid | srate | basehz | blklen | blkctl | x | y
  | arg (i : Fin 6)
  | p (i : Fin 9)
  | ps (i : Fin 9)
  | sineFreq | sineInc | sinePhase
  | noiseIdx
  | lp1K | lp1Mem
  | dcrMem
  | iir3Y1 | iir3Y2
  | rclpDt | rclpRc | rclpAlpha | rclpLast
  | rcbpHpDt | rcbpHpRc | rcbpHpAlpha | rcbpHpLast
  | rcbpLpDt | rcbpLpRc | rcbpLpAlpha | rcbpLpLast
  | moogF | moogAf | moogSqf | moogFb | moogRes
  | moogIn (i : Fin 4)
  | moogOut (i : Fin 4)
  | bwMode | bwGain
  | bwA0 (s : Fin 2) | bwA1 (s : Fin 2) | bwA2 (s : Fin 2) | bwB1 (s : Fin 2) | bwB2 (s : Fin 2)
  | bwX1 (s : Fin 2) | bwX2 (s : Fin 2) | bwY1 (s : Fin 2) | bwY2 (s : Fin 2)
  | bwN (s : Fin 2) | bwWc (s : Fin 2) | bwHp (s : Fin 2)
  | harmCount | harmBasef | harmOffset | harmCenter | harmWidth | harmMaster | harmFinc
  | delayN | delayFb | delayLen | delayCell
  | harmPhase (h : Nat)
  | harmAmp (h : Nat)
  | harmInc (h : Nat)
  | obuf (i : Nat)
  | fifo (j : Nat)
  | sinq (q : Nat)
deriving DecidableEq, Repr

/-- Addresses `0x00000` to `0x00015`: global control and data registers (10_state.md R21 to R35). -/
def globalRegs : List (Nat × Loc) :=
  [(0x00000, .id), (0x00001, .status), (0x00002, .ien), (0x00003, .errcode), (0x00004, .errinfo), (0x00005, .errval),
   (0x00006, .cmd), (0x00007, .cfgvalid), (0x00008, .srate), (0x00009, .basehz), (0x0000A, .blklen), (0x0000B, .blkctl),
   (0x0000C, .x), (0x0000D, .y),
   (0x00010, .arg 0), (0x00011, .arg 1), (0x00012, .arg 2), (0x00013, .arg 3), (0x00014, .arg 4), (0x00015, .arg 5)]

/-- Addresses `0x00020` to `0x00038`: the block parameters and their snapshot (10_state.md R26, R28). -/
def paramRegs : List (Nat × Loc) :=
  [(0x00020, .p 0), (0x00021, .p 1), (0x00022, .p 2), (0x00023, .p 3), (0x00024, .p 4), (0x00025, .p 5), (0x00026, .p 6),
   (0x00027, .p 7), (0x00028, .p 8),
   (0x00030, .ps 0), (0x00031, .ps 1), (0x00032, .ps 2), (0x00033, .ps 3), (0x00034, .ps 4), (0x00035, .ps 5),
   (0x00036, .ps 6), (0x00037, .ps 7), (0x00038, .ps 8)]

/-- Addresses `0x00040` to `0x0006F`: units 0 to 7 (10_state.md R36 to R43). -/
def unitRegs : List (Nat × Loc) :=
  [(0x00040, .sineFreq), (0x00041, .sineInc), (0x00042, .sinePhase), (0x00044, .noiseIdx),
   (0x00048, .lp1K), (0x00049, .lp1Mem), (0x0004C, .dcrMem), (0x00050, .iir3Y1), (0x00051, .iir3Y2),
   (0x00054, .rclpDt), (0x00055, .rclpRc), (0x00056, .rclpAlpha), (0x00057, .rclpLast),
   (0x00058, .rcbpHpDt), (0x00059, .rcbpHpRc), (0x0005A, .rcbpHpAlpha), (0x0005B, .rcbpHpLast),
   (0x0005C, .rcbpLpDt), (0x0005D, .rcbpLpRc), (0x0005E, .rcbpLpAlpha), (0x0005F, .rcbpLpLast),
   (0x00060, .moogF), (0x00061, .moogAf), (0x00062, .moogSqf), (0x00063, .moogFb), (0x00064, .moogRes),
   (0x00068, .moogIn 0), (0x00069, .moogIn 1), (0x0006A, .moogIn 2), (0x0006B, .moogIn 3),
   (0x0006C, .moogOut 0), (0x0006D, .moogOut 1), (0x0006E, .moogOut 2), (0x0006F, .moogOut 3)]

/-- The registers of biquad section `s`, from `0x00080 + 0x10*s` (10_state.md R44). -/
def sectionRegs (s : Fin 2) : List (Nat × Loc) :=
  let b := 0x00080 + 0x10 * s.val
  [(b, .bwA0 s), (b + 1, .bwA1 s), (b + 2, .bwA2 s), (b + 3, .bwB1 s), (b + 4, .bwB2 s), (b + 5, .bwX1 s), (b + 6, .bwX2 s),
   (b + 7, .bwY1 s), (b + 8, .bwY2 s), (b + 9, .bwN s), (b + 10, .bwWc s), (b + 11, .bwHp s)]

/-- Addresses `0x00070` to `0x000B3`: units 8 to 10 (10_state.md R44 to R46). -/
def compositeRegs : List (Nat × Loc) :=
  [(0x00070, .bwMode), (0x00071, .bwGain)] ++ sectionRegs 0 ++ sectionRegs 1 ++
  [(0x000A0, .harmCount), (0x000A1, .harmBasef), (0x000A2, .harmOffset), (0x000A3, .harmCenter), (0x000A4, .harmWidth),
   (0x000A5, .harmMaster), (0x000A6, .harmFinc),
   (0x000B0, .delayN), (0x000B1, .delayFb), (0x000B2, .delayLen), (0x000B3, .delayCell)]

/-- Every named register below `0x01000`. -/
def namedRegs : List (Nat × Loc) := globalRegs ++ paramRegs ++ unitRegs ++ compositeRegs

/-- First word address of the `FIFO` view (20_memory.md R60). -/
def fifoBase : Nat := 0x20000
/-- First word address of `SINQ` (20_memory.md R60). -/
def sinqBase : Nat := 0x30000

/-- The array windows of R60: `a` lies in `[base, base + size)`. -/
def inWindow (base size a : Nat) : Bool := decide (base ≤ a ∧ a < base + size)

/-- The location an address reaches; none where the address is unmapped (20_memory.md R60). -/
def locOf (c : Config) (addr : Addr) : Option Loc :=
  let a := addr.toNat
  if a < 0x01000 then namedRegs.lookup a
  else if inWindow harmPhaseBase c.harmMax a then some (.harmPhase (a - harmPhaseBase))
  else if inWindow harmAmpBase c.harmMax a then some (.harmAmp (a - harmAmpBase))
  else if inWindow harmIncBase c.harmMax a then some (.harmInc (a - harmIncBase))
  else if inWindow obufBase c.obufDepth a then some (.obuf (a - obufBase))
  else if inWindow fifoBase c.delayMax a then some (.fifo (a - fifoBase))
  else if inWindow sinqBase (2 ^ c.lutBits / 4 + 1) a then some (.sinq (a - sinqBase))
  else none

/-- The access rights of 10_state.md: read-write, read-only, write-only, write-one-to-clear. -/
inductive Access where
  | rw | ro | wo | w1c
deriving DecidableEq, Repr

/-- Who may write a location (10_state.md R21 to R46, R51). -/
def Loc.access : Loc → Access
  | .status => .w1c
  | .cmd => .wo
  | .ien | .srate | .basehz | .blklen | .blkctl | .x | .arg _ | .p _ => .rw
  | _ => .ro

/-- Zero-extension of a 32-bit register on a bus read (20_memory.md R63). -/
def zext64 (w : Word32) : Word64 := w.setWidth 64

/-- Stage `i + 1` of the ladder. -/
def Moog.stage (m : Moog) (i : Fin 4) : Stage :=
  match i with
  | 0 => m.st1
  | 1 => m.st2
  | 2 => m.st3
  | 3 => m.st4

/-- Section `s` of the biquad core. -/
def Bw.section (b : Bw) (s : Fin 2) : BwSection :=
  match s with
  | 0 => b.s0
  | 1 => b.s1

/-- `ID` (10_state.md R35). -/
def idWord : Word32 := 0x44534307#32

/-- `zext_64(register)`: what a location reads as (20_memory.md R62, R63). -/
def readLoc (s : State) : Loc → Word64
  | .id => zext64 idWord
  | .status => zext64 (statusWord s)
  | .ien => zext64 (ienWord s)
  | .errcode => zext64 s.errcode
  | .errinfo => zext64 s.errinfo
  | .errval => s.errval
  | .cmd => 0
  | .cfgvalid => zext64 (cfgvalidWord s)
  | .srate => s.srate
  | .basehz => s.basehz
  | .blklen => zext64 s.blklen
  | .blkctl => zext64 (blkctlWord s)
  | .x => s.x
  | .y => s.y
  | .arg i => s.arg[i]
  | .p i => s.p[i]
  | .ps i => s.ps[i]
  | .sineFreq => s.sine.freq
  | .sineInc => s.sine.inc
  | .sinePhase => s.sine.phase
  | .noiseIdx => s.noiseIdx
  | .lp1K => s.lp1.k
  | .lp1Mem => s.lp1.mem
  | .dcrMem => s.dcr.mem
  | .iir3Y1 => s.iir3.y1
  | .iir3Y2 => s.iir3.y2
  | .rclpDt => s.rclp.dt
  | .rclpRc => s.rclp.rc
  | .rclpAlpha => s.rclp.alpha
  | .rclpLast => s.rclp.last
  | .rcbpHpDt => s.rcbp.hp.dt
  | .rcbpHpRc => s.rcbp.hp.rc
  | .rcbpHpAlpha => s.rcbp.hp.alpha
  | .rcbpHpLast => s.rcbp.hp.last
  | .rcbpLpDt => s.rcbp.lp.dt
  | .rcbpLpRc => s.rcbp.lp.rc
  | .rcbpLpAlpha => s.rcbp.lp.alpha
  | .rcbpLpLast => s.rcbp.lp.last
  | .moogF => s.moog.f
  | .moogAf => s.moog.af
  | .moogSqf => s.moog.sqf
  | .moogFb => s.moog.fb
  | .moogRes => s.moog.res
  | .moogIn i => (s.moog.stage i).prevIn
  | .moogOut i => (s.moog.stage i).prevOut
  | .bwMode => zext64 s.bw.mode
  | .bwGain => s.bw.gain
  | .bwA0 n => (s.bw.section n).coefs.a0
  | .bwA1 n => (s.bw.section n).coefs.a1
  | .bwA2 n => (s.bw.section n).coefs.a2
  | .bwB1 n => (s.bw.section n).coefs.b1
  | .bwB2 n => (s.bw.section n).coefs.b2
  | .bwX1 n => (s.bw.section n).x1
  | .bwX2 n => (s.bw.section n).x2
  | .bwY1 n => (s.bw.section n).y1
  | .bwY2 n => (s.bw.section n).y2
  | .bwN n => zext64 (s.bw.section n).coefs.n
  | .bwWc n => (s.bw.section n).coefs.wc
  | .bwHp n => zext64 (s.bw.section n).coefs.hp
  | .harmCount => zext64 s.harm.count
  | .harmBasef => s.harm.basef
  | .harmOffset => s.harm.offset
  | .harmCenter => s.harm.center
  | .harmWidth => s.harm.width
  | .harmMaster => s.harm.master
  | .harmFinc => s.harm.finc
  | .delayN => zext64 s.delay.n
  | .delayFb => s.delay.fb
  | .delayLen => zext64 (BitVec.ofNat 32 s.delay.len)
  | .delayCell => s.delay.cell
  | .harmPhase h => s.mem.harmPhase h
  | .harmAmp h => s.mem.harmAmp h
  | .harmInc h => s.mem.harmInc h
  | .obuf i => s.mem.obuf i
  | .fifo j => s.delay.fifo.getD j F64.posZero
  | .sinq q => Sys2Proof.Machine.sinq s.conf.lutBits q

end Sys2Proof.Machine
end

