-- ==== Sys2Proof/Machine/Harmonic.lean ====
section
/-! DEFINITION. `HARM`, the harmonic-envelope bank (45_harmonic.md R200 to R204). -/

namespace Sys2Proof.Machine

/-- The raw parameters of a harmonic configuration, in the order of `ARG0..ARG5` (30_encoding.md R91). -/
structure HarmParams where
  count : Num64
  basef : Num64
  offset : Num64
  center : Num64
  width : Num64
  master : Num64
deriving DecidableEq, Repr

/-- The active count: NaN and everything below 1 give 1, everything above `HARM_MAX` gives `HARM_MAX`, else the floor (R200). -/
def harmCount (harmMax : Nat) (v : Num64) : Nat :=
  if F64.isNaN v || F64.lt v F64.one then 1
  else if F64.lt (F64.ofNat harmMax) v then harmMax
  else (F64.floor v).toNat

/-- `HWIN(d, W)`: the raised cosine of `d / W`, zero outside `[-1, 1]` and for a width that is not positive (R201). -/
def hwin (lutBits : Nat) (d w : Num64) : Num64 :=
  if F64.lt F64.posZero w then
    let u := F64.div d w
    if F64.le F64.negOne u && F64.le u F64.one then
      F64.mul F64.half (F64.add F64.one (cos2pi lutBits (F64.div u F64.two)))
    else F64.posZero
  else F64.posZero

/-- `HARM_INC[h]` (R200). -/
def harmIncValue (finc : Num64) (q : HarmParams) (h : Nat) : Num64 :=
  F64.mul (F64.mul finc q.basef) (F64.sub (F64.ofNat h) q.offset)

/-- `HARM_AMP[h]` (R200). -/
def harmAmpValue (lutBits : Nat) (q : HarmParams) (h : Nat) : Num64 :=
  hwin lutBits (F64.sub (F64.mul q.basef (F64.sub (F64.ofNat h) q.offset)) q.center) (F64.mul q.width q.center)

/-- Write increment and amplitude of the `n` slots from `h` up (R200). -/
def harmFill (lutBits : Nat) (finc : Num64) (q : HarmParams) : Nat → Nat → Memory → Memory
  | 0, _, m => m
  | n + 1, h, m =>
    harmFill lutBits finc q n (h + 1)
      ((m.write (harmIncBase + h) (harmIncValue finc q h)).write (harmAmpBase + h) (harmAmpValue lutBits q h))

/-- `HARM.CFG`'s steps on given raw parameters (R200): slots at or above the count, and every phase, are kept. -/
def harmConfigure (q : HarmParams) (s : State) : State :=
  let c := harmCount s.conf.harmMax q.count
  let finc := F64.div F64.one s.srate
  ({ s with
    harm := { count := BitVec.ofNat 32 c, basef := q.basef, offset := q.offset, center := q.center, width := q.width,
              master := q.master, finc := finc }
    mem := harmFill s.conf.lutBits finc q c 0 s.mem }).markConfigured .harm

/-- The sum over the `n` slots from `h` up, ascending: each phase is advanced, then its sine is weighted (R203). -/
def harmSum (lutBits : Nat) : Nat → Nat → Memory → Num64 → Num64 × Memory
  | 0, _, m, acc => (acc, m)
  | n + 1, h, m, acc =>
    let phase := F64.add (m.harmPhase h) (m.harmInc h)
    harmSum lutBits n (h + 1) (m.write (harmPhaseBase + h) phase)
      (F64.add acc (F64.mul (m.harmAmp h) (sin2pi lutBits phase)))

/-- `HARM.PROC` step 3 (R203): the result and the memory with the advanced phases. -/
def harmProcess (s : State) : Num64 × Memory :=
  let r := harmSum s.conf.lutBits s.harm.count.toNat 0 s.mem F64.posZero
  (F64.mul (F64.div r.1 (F64.ofNat s.harm.count.toNat)) s.harm.master, r.2)

/-- Zero the phases of the `n` slots from `h` up (R204). -/
def harmClear : Nat → Nat → Memory → Memory
  | 0, _, m => m
  | n + 1, h, m => harmClear n (h + 1) (m.write (harmPhaseBase + h) F64.posZero)

/-- All `HARM_MAX` phases zeroed (R204). -/
def harmReset (s : State) : State := s.withMem (harmClear s.conf.harmMax 0 s.mem)

/-- The raw parameters in `ARG0..ARG5`. -/
def harmArgs (s : State) : HarmParams := ⟨arg0 s, arg1 s, arg2 s, arg3 s, arg4 s, arg5 s⟩

/-- `HARM.CFG` (R200): every value is accepted. -/
def execHarmCfg (s : State) : Host.Outcome State Fault Refusal := .next (harmConfigure (harmArgs s) s)

/-- `HARM.PROC` (R203). -/
def execHarmProc (s : State) : Host.Outcome State Fault Refusal :=
  let r := harmProcess s
  .next (whenConfigured .harm .harmProc s ((s.withMem r.2).writeY r.1))

/-- `HARM.RST` (R204). -/
def execHarmRst (s : State) : Host.Outcome State Fault Refusal := .next (harmReset s)

end Sys2Proof.Machine
end

