-- ==== Sys2Proof/Machine/Noise.lean ====
section
/-! DEFINITION. `NOISE`, the white-noise generator (42_primitives.md R143). -/

namespace Sys2Proof.Machine

/-- `noise(k)`, `NOISE_SRC`: any sequence with `-1 <= noise(k) <= 1` (00_scope.md R7). The free sequence clipped: a value in
`[-1, 1]` is left as it is, so every admitted sequence, and no other, is meant (DESIGN CHOICE, notes/assumptions/4.md). -/
def noise (k : Nat) : Num64 := clip (Config.noiseRaw k)

/-- The noise value the next draw returns. -/
def nextNoise (s : State) : Num64 := noise s.noiseIdx.toNat

/-- One draw: `NOISE_IDX <- (NOISE_IDX + 1) mod 2^64` (R143). -/
def advanceNoise (s : State) : State := { s with noiseIdx := s.noiseIdx + 1 }

/-- `NOISE.PROC` (R143): needs no configuration. -/
def execNoiseProc (s : State) : Host.Outcome State Fault Refusal :=
  .next ((advanceNoise s).writeY (nextNoise s))

end Sys2Proof.Machine
end

