-- ==== Sys2Proof/Machine/Block.lean ====
section
/-! DEFINITION. `BLK`, the block processor (47_block.md R230 to R239): the set-up step that `BLK.RUN` is, and the sample step the core
takes while `BUSY`. -/

namespace Sys2Proof.Machine

/-- `CLAMPP(v, i)` with row `r = PARAM_TABLE[i]` (10_state.md R28). -/
def clampParam (r : ParamRange) (v : Num64) : Num64 :=
  if F64.isNaN v then r.dflt
  else if F64.lt v r.min then r.min
  else if F64.lt r.max v then r.max
  else v

/-- Step 1 of the set-up: `PS[i] <- CLAMPP(P[i], i)` for all nine (R233). -/
def snapshot (c : Config) (p : Vector Num64 9) : Vector Num64 9 :=
  #v[clampParam c.paramTable[0] p[0], clampParam c.paramTable[1] p[1], clampParam c.paramTable[2] p[2],
     clampParam c.paramTable[3] p[3], clampParam c.paramTable[4] p[4], clampParam c.paramTable[5] p[5],
     clampParam c.paramTable[6] p[6], clampParam c.paramTable[7] p[7], clampParam c.paramTable[8] p[8]]

/-- `octaveToHz(o) = BASEHZ * EXP2(o)` (R234). -/
def octaveToHz (basehz o : Num64) : Num64 := F64.mul basehz (F64.exp2 o)

/-- The operands the set-up hands to the harmonic bank: `PS[6]`, `oscHz`, `PS[5]`, `centerHz`, `PS[8]`, `PS[0]` (R233). -/
def blkHarmParams (basehz : Num64) (ps : Vector Num64 9) : HarmParams :=
  ⟨ps[6], octaveToHz basehz ps[3], ps[5], octaveToHz basehz ps[7], ps[8], ps[0]⟩

/-- The set-up step (R233). -/
def blkSetup (s : State) : State :=
  let ps := snapshot s.conf s.p
  let t := harmConfigure (blkHarmParams s.basehz ps) { s with ps := ps }
  let t := ({ t with moog := moogConfigure t.srate t.moog (octaveToHz t.basehz ps[4]) ps[2] }).markConfigured .moog
  { t with
    blk := { idx := 0, n := s.blklen.toNat, sat := blkctlSat s }
    status := setFlag t.status .busy }

/-- R236: `STATUS.BUSY <- 0 ; STATUS.BLKDONE <- 1`. -/
def blkFinish (s : State) : State := { s with status := setFlag (clearFlag s.status .busy) .blkDone }

/-- The value a sample step writes for noise value `z`: the bank, through the ladder, plus the dither (R235). -/
def sampleValue (z : Num64) (s : State) : Num64 :=
  F64.add (moogProcess s.blk.sat s.moog (harmProcess s).1).1 (F64.mul s.conf.ditherAmp z)

/-- The sample step with noise value `z` (R235), the termination of R236 included. `X` and `Y` are not written. -/
def sampleStep (z : Num64) (s : State) : State :=
  let h := harmProcess s
  let t := advanceNoise { s with
    moog := (moogProcess s.blk.sat s.moog h.1).2
    mem := h.2.write (obufBase + s.blk.idx) (sampleValue z s)
    blk := { s.blk with idx := s.blk.idx + 1 } }
  if s.blk.idx + 1 = s.blk.n then blkFinish t else t

/-- The core's step while a block runs: one sample, with the next noise value (R235). -/
def coreStep (s : State) : State := sampleStep (nextNoise s) s

/-- `BLK.RUN` (R232): its set-up step. It tests no `CFGVALID` bit and raises no error (R237). -/
def execBlkRun (s : State) : Host.Outcome State Fault Refusal := .next (blkSetup s)

end Sys2Proof.Machine
end

