-- ==== Sys2Proof/Machine/Sine.lean ====
section
/-! DEFINITION. `SINE`, the phase-accumulating oscillator (42_primitives.md R140 to R142). -/

namespace Sys2Proof.Machine

/-- Step 3 of `SINE.PROC` (R141): advance the phase, then read the sine of the advanced phase. The result and the new unit. -/
def sineProcess (lutBits : Nat) (u : Sine) : Num64 × Sine :=
  let phase := F64.add u.phase u.inc
  (sin2pi lutBits phase, { u with phase := phase })

/-- The unit's history zeroed (R142). -/
def sineReset (u : Sine) : Sine := { u with phase := F64.posZero }

/-- `SINE.CFG` (R140): any frequency is accepted; the phase is not touched. -/
def execSineCfg (s : State) : Host.Outcome State Fault Refusal :=
  .next (({ s with sine := { s.sine with freq := arg0 s, inc := F64.div (arg0 s) s.srate } }).markConfigured .sine)

/-- `SINE.PROC` (R141). -/
def execSineProc (s : State) : Host.Outcome State Fault Refusal :=
  let r := sineProcess s.conf.lutBits s.sine
  .next (whenConfigured .sine .sineProc s ({ s with sine := r.2 }.writeY r.1))

/-- `SINE.RST` (R142). -/
def execSineRst (s : State) : Host.Outcome State Fault Refusal :=
  .next { s with sine := sineReset s.sine }

end Sys2Proof.Machine
end

