-- ==== Sys2Proof/Machine/Sys.lean ====
section
/-! DEFINITION. The `SYS` commands (41_operator_contract_sys.md R128, R129). -/

namespace Sys2Proof.Machine

/-- `SYS.NOP` (R128): no state change. -/
def execSysNop (s : State) : Host.Outcome State Fault Refusal := .next s

/-- The `RST` of every unit that has history (R129). -/
def resetAllHistory (s : State) : State :=
  harmReset { s with
    sine := sineReset s.sine
    lp1 := lp1Reset s.lp1
    dcr := dcrReset s.dcr
    iir3 := iir3Reset s.iir3
    rclp := rcReset s.rclp
    rcbp := rcbpReset s.rcbp
    moog := moogReset s.moog
    bw := bwReset s.bw
    delay := delayReset s.delay }

/-- `SYS.RSTALL` (R129). -/
def execSysRstAll (s : State) : Host.Outcome State Fault Refusal := .next (resetAllHistory s)

end Sys2Proof.Machine
end

