-- ==== Sys2Proof/Machine/Dispatch.lean ====
section
/-! DEFINITION. One arm per command, each one call of its meaning (30_encoding.md R88). -/

namespace Sys2Proof.Machine

def exec (i : Instr) (s : State) : Host.Outcome State Fault Refusal :=
  match i with
  | .sineProc => Sys2Proof.Machine.execSineProc s
  | .sineCfg => Sys2Proof.Machine.execSineCfg s
  | .sineRst => Sys2Proof.Machine.execSineRst s
  | .noiseProc => Sys2Proof.Machine.execNoiseProc s
  | .lp1Proc iny => Sys2Proof.Machine.execLp1Proc iny s
  | .lp1Cfg => Sys2Proof.Machine.execLp1Cfg s
  | .lp1Rst => Sys2Proof.Machine.execLp1Rst s
  | .dcrProc iny => Sys2Proof.Machine.execDcrProc iny s
  | .dcrRst => Sys2Proof.Machine.execDcrRst s
  | .iir3Proc iny => Sys2Proof.Machine.execIir3Proc iny s
  | .iir3Rst => Sys2Proof.Machine.execIir3Rst s
  | .rclpProc iny => Sys2Proof.Machine.execRclpProc iny s
  | .rclpCfg => Sys2Proof.Machine.execRclpCfg s
  | .rclpRst => Sys2Proof.Machine.execRclpRst s
  | .rcbpProc iny => Sys2Proof.Machine.execRcbpProc iny s
  | .rcbpCfg => Sys2Proof.Machine.execRcbpCfg s
  | .rcbpRst => Sys2Proof.Machine.execRcbpRst s
  | .moogProc sat iny => Sys2Proof.Machine.execMoogProc sat iny s
  | .moogCfg => Sys2Proof.Machine.execMoogCfg s
  | .moogRst => Sys2Proof.Machine.execMoogRst s
  | .bwProc iny => Sys2Proof.Machine.execBwProc iny s
  | .bwCfg => Sys2Proof.Machine.execBwCfg s
  | .bwRst => Sys2Proof.Machine.execBwRst s
  | .bwCfgLp => Sys2Proof.Machine.execBwCfgLp s
  | .bwCfgHp => Sys2Proof.Machine.execBwCfgHp s
  | .bwCfgBp => Sys2Proof.Machine.execBwCfgBp s
  | .harmProc => Sys2Proof.Machine.execHarmProc s
  | .harmCfg => Sys2Proof.Machine.execHarmCfg s
  | .harmRst => Sys2Proof.Machine.execHarmRst s
  | .delayProc iny => Sys2Proof.Machine.execDelayProc iny s
  | .delayProcScLp1 iny => Sys2Proof.Machine.execDelayProcScLp1 iny s
  | .delayProcScDcr iny => Sys2Proof.Machine.execDelayProcScDcr iny s
  | .delayProcScIir3 iny => Sys2Proof.Machine.execDelayProcScIir3 iny s
  | .delayProcScRclp iny => Sys2Proof.Machine.execDelayProcScRclp iny s
  | .delayProcScRcbp iny => Sys2Proof.Machine.execDelayProcScRcbp iny s
  | .delayProcScMoog sat iny => Sys2Proof.Machine.execDelayProcScMoog sat iny s
  | .delayProcScBw iny => Sys2Proof.Machine.execDelayProcScBw iny s
  | .delayCfg => Sys2Proof.Machine.execDelayCfg s
  | .delayRst => Sys2Proof.Machine.execDelayRst s
  | .delayProcNt iny => Sys2Proof.Machine.execDelayProcNt iny s
  | .blkRun => Sys2Proof.Machine.execBlkRun s
  | .sysNop => Sys2Proof.Machine.execSysNop s
  | .sysRstAll => Sys2Proof.Machine.execSysRstAll s

end Sys2Proof.Machine
end

