-- ==== Sys2Proof/Machine/Port.lean ====
section
/-! DEFINITION. The host's moves and the machine's step (20_memory.md R62, R66, R74; 10_state.md R20; 70_reset_and_hazards.md R280). -/

namespace Sys2Proof.Machine

/-- Word address of `CMD` (10_state.md R29). -/
def cmdAddr : Addr := 0x00006#18
/-- Word address of `STATUS` (10_state.md R23). -/
def statusAddr : Addr := 0x00001#18

/-- The address is one of `P[0..8]` (10_state.md R26). -/
def isParamAddr (a : Addr) : Bool := decide (0x00020 ≤ a.toNat ∧ a.toNat ≤ 0x00028)

/-- A rate or base frequency a write may store: finite and positive (10_state.md R30, R31). -/
def ratePositive (v : Num64) : Bool := F64.lt F64.posZero v && F64.isFinite v

/-- A block length a write may store: `1 .. OBUF_DEPTH` (10_state.md R32). -/
def blklenValid (c : Config) (v : Word32) : Bool := decide (v.toNat ≠ 0 ∧ v.toNat ≤ c.obufDepth)

/-- A write to a read-write register (20_memory.md R62, R63): the low half for a 32-bit register, writable bits only; a refused value
is the bus error `BUS_BAD_VALUE` (10_state.md R30 to R32). Locations that are not read-write are not reached. -/
def writeLoc (a : Addr) (v : Word64) (s : State) : Loc → State
  | .ien => { s with ien := v.setWidth 32 &&& 0x3E#32 }
  | .srate => if ratePositive v then { s with srate := v } else busError .busBadValue a v s
  | .basehz => if ratePositive v then { s with basehz := v } else busError .busBadValue a v s
  | .blklen =>
    if blklenValid s.conf (v.setWidth 32) then { s with blklen := v.setWidth 32 }
    else busError .busBadValue a F64.posZero s
  | .blkctl => { s with blkctl := v.setWidth 32 &&& 0x1#32 }
  | .x => { s with x := v }
  | .arg i => { s with arg := s.arg.set i v }
  | .p i => { s with p := s.p.set i v }
  | _ => s

/-- A write of word `w` to `CMD`: the command it encodes runs; an illegal word records `ILLEGAL_CMD` and changes nothing else
(10_state.md R29, 60_exceptions.md R256). -/
def runCommand (w : Word32) (s : State) : Host.Outcome State Fault Refusal :=
  match decode w with
  | .ok i => exec i s
  | .error .illegalCommand => .next (recordError .illegalCmd w F64.posZero s)

/-- `BusWrite(a, v)` (20_memory.md R62), the access being one that completes. -/
def busWrite (a : Addr) (v : Word64) (s : State) : Host.Outcome State Fault Refusal :=
  match locOf s.conf a with
  | none => .next (busError .busUnmapped a F64.posZero s)
  | some l =>
    match l.access with
    | .ro => .next (busError .busRoWrite a F64.posZero s)
    | .wo => runCommand (v.setWidth 32) s
    | .w1c => .next (acknowledge (v.setWidth 32) s)
    | .rw => .next (writeLoc a v s l)

/-- `BusRead(a)` (20_memory.md R62), the access being one that completes: the data goes to `rdata`; an unmapped read returns 0 and
is a bus error (R68). A read has no other effect (R67). -/
def busRead (a : Addr) (s : State) : State :=
  match locOf s.conf a with
  | none => (busError .busUnmapped a F64.posZero s).withRdata 0
  | some l => s.withRdata (readLoc s l)

/-- `rst_n`: every piece of state takes its reset value; a running block is abandoned (70_reset_and_hazards.md R280). The configuration
record is fixed and the host's own moves go on (DESIGN CHOICE, notes/assumptions/8.md). -/
def hardReset (moves : List HostMove) (s : State) : State := (resetState s.conf).withPort moves

/-- A host move while no block runs; `s` no longer lists the move. -/
def idleMove (m : HostMove) (s : State) : Host.Outcome State Fault Refusal :=
  match m with
  | .write a v => busWrite a v s
  | .read a => .next (busRead a s)
  | .idle => .next s
  | .waitBlk => .next s
  | .reset => .next (hardReset s.port s)

/-- A host move while a block runs (20_memory.md R74): only reads of `STATUS` and accesses to `P[0..8]` complete; `idle` gives the core
a turn; every other access is held and the core goes on. `s` still lists the move, `rest` are the moves after it. -/
def busyMove (m : HostMove) (rest : List HostMove) (s : State) : Host.Outcome State Fault Refusal :=
  match m with
  | .write a v => if isParamAddr a then busWrite a v (s.withPort rest) else .next (coreStep s)
  | .read a => if isParamAddr a || a == statusAddr then .next (busRead a (s.withPort rest)) else .next (coreStep s)
  | .idle => .next (coreStep (s.withPort rest))
  | .waitBlk => .next (coreStep s)
  | .reset => .next (hardReset rest s)

/-- One step of the machine (10_state.md R20, 20_memory.md R66): the host's next move where it can complete, else the core's sample
step where a block runs, else nothing (DESIGN CHOICE, notes/assumptions/17.md, 21.md). -/
def machineStep (s : State) : Host.Outcome State Fault Refusal :=
  match s.port with
  | [] => .next (if s.busy then coreStep s else s)
  | m :: rest => if s.busy then busyMove m rest s else idleMove m (s.withPort rest)

/-- The state whose next step writes the `nbits` bits of `w` to `CMD`: the write is put before the host's other moves and `BUSY` is
0, without which the port would hold it (R74; DESIGN CHOICE, notes/assumptions/15.md). -/
def placeCommand (nbits w : Nat) (s : State) : State :=
  { s with
    port := .write cmdAddr (BitVec.ofNat 64 (w % 2 ^ nbits)) :: s.port
    status := clearFlag s.status .busy }

end Sys2Proof.Machine
end

