-- ==== Sys2Proof/Machine/Step.lean ====
section
/-! DEFINITION. The step function and the host's placing of one command, each one call of its definition in Machine/Port.lean. -/

namespace Sys2Proof.Machine

/-- One step of DSC (10_state.md R20, 20_memory.md R66). -/
def step (s : State) : Host.Outcome State Fault Refusal := machineStep s

/-- `s` with the command word `w` as the host's next move, so that the very next step runs it. -/
def State.withFetchWord (s : State) (nbits w : Nat) : State := placeCommand nbits w s

end Sys2Proof.Machine
end

