-- ==== Sys2Proof/Safety.lean ====
section
/-! DEFINITION. What every reachable state of DSC satisfies, in the terms the claims use: the invariants the spec states for the
registers, the memories and the running block; the exact value of a number and correct rounding; silence; the commands grouped as
the spec groups them. -/

namespace Sys2Proof.Machine

/-- The reserved bits of `STATUS`, `IEN`, `BLKCTL`, `ERRCODE` and `CFGVALID` hold what they read as, and the hardwired bits of
`CFGVALID` are 1 (10_state.md R23, R24, R25, R33, R34). -/
structure RegistersLegal (s : State) : Prop where
  status : s.status &&& 0xFFFFFFC0#32 = 0
  ien : s.ien &&& 0xFFFFFFC1#32 = 0
  blkctl : s.blkctl &&& 0xFFFFFFFE#32 = 0
  errcode : s.errcode &&& 0xFFFFFF00#32 = 0
  cfgvalid : s.cfgvalid &&& 0xFFFFF81A#32 = 0x1A#32

/-- `SRATE` and `BASEHZ` are finite and positive, `BLKLEN` is in `1 .. OBUF_DEPTH` (10_state.md R30 to R32). -/
structure RatesLegal (s : State) : Prop where
  srate : ratePositive s.srate = true
  basehz : ratePositive s.basehz = true
  blklen : blklenValid s.conf s.blklen = true

/-- Every `PS[i]` lies in its parameter's range (10_state.md R28). -/
def SnapshotLegal (s : State) : Prop :=
  ∀ i : Fin 9, F64.le (s.conf.paramTable[i]).min s.ps[i] = true ∧ F64.le s.ps[i] (s.conf.paramTable[i]).max = true

/-- `0 <= MOOG_F <= PI`, and once configured the derived scalars belong to the stored frequency and resonance: `MOOG_FB` is never
independently stale (10_state.md R43). -/
structure LadderLegal (s : State) : Prop where
  lower : F64.le F64.posZero s.moog.f = true
  upper : F64.le s.moog.f numPi = true
  derived : s.configured .moog = true →
    s.moog.af = F64.sub F64.one s.moog.f ∧ s.moog.sqf = F64.mul s.moog.f s.moog.f ∧
      s.moog.fb = F64.mul s.moog.res (F64.sub F64.one (F64.mul c015 s.moog.sqf))

/-- `1 <= HARM_COUNT <= HARM_MAX` (10_state.md R45). -/
def BankLegal (s : State) : Prop := 1 ≤ s.harm.count.toNat ∧ s.harm.count.toNat ≤ s.conf.harmMax

/-- `DELAY_LEN <= DELAY_N`, and once configured `1 <= DELAY_N <= DELAY_MAX` and `0 <= DELAY_FB < 1` (46_delay.md R216). -/
structure DelayLegal (s : State) : Prop where
  len : s.delay.len ≤ s.delay.n.toNat
  configured : s.configured .delay = true →
    1 ≤ s.delay.n.toNat ∧ s.delay.n.toNat ≤ s.conf.delayMax ∧
      F64.le F64.posZero s.delay.fb = true ∧ F64.lt s.delay.fb F64.one = true

/-- The order is even and in `2 .. BW_ORDER_MAX` (44_butterworth.md R182, R183). -/
def OrderLegal (c : Config) (n : Word32) : Prop := 2 ≤ n.toNat ∧ n.toNat % 2 = 0 ∧ n.toNat ≤ c.bwOrderMax

/-- `BW_MODE` is one of its four values, and the sections in use hold a design (10_state.md R44). -/
structure BiquadLegal (s : State) : Prop where
  mode : s.bw.mode.toNat ≤ 3
  first : s.configured .bw = true → OrderLegal s.conf s.bw.s0.coefs.n
  second : s.configured .bw = true → s.bw.mode = bwModeBp → OrderLegal s.conf s.bw.s1.coefs.n

/-- `a` is an address of one of the array windows a command writes (20_memory.md R60, R71). -/
def arrayAddr (c : Config) (a : Nat) : Bool :=
  inWindow harmPhaseBase c.harmMax a || inWindow harmAmpBase c.harmMax a || inWindow harmIncBase c.harmMax a ||
    inWindow obufBase c.obufDepth a

/-- The memory is in canonical form and lists only addresses of the array windows. -/
structure MemoryLegal (s : State) : Prop where
  wf : s.mem.wf = true
  inRange : ∀ cell ∈ s.mem, arrayAddr s.conf cell.1 = true

/-- While a block runs, `0 <= BLK_IDX < BLK_N <= OBUF_DEPTH` (20_memory.md R71). -/
def BlockLegal (s : State) : Prop := s.busy = true → s.blk.idx < s.blk.n ∧ s.blk.n ≤ s.conf.obufDepth

/-- The invariant of DSC: it holds after reset and every step keeps it. -/
structure Inv (s : State) : Prop where
  conf : s.conf.wellFormed = true
  registers : RegistersLegal s
  rates : RatesLegal s
  snapshot : SnapshotLegal s
  ladder : LadderLegal s
  bank : BankLegal s
  delay : DelayLegal s
  biquad : BiquadLegal s
  memory : MemoryLegal s
  block : BlockLegal s

/-- A filter value that the silence invariant calls zero: either sign (40_function_units.md R101). -/
def silent (v : Num64) : Prop := F64.isZero v = true

/-- All history cells of the filter unit are zeros and its coefficients are finite (41_operator_contract_sys.md R125). -/
def FilterSilent (s : State) : SideChain → Prop
  | .lp1 => silent s.lp1.mem ∧ F64.isFinite s.lp1.k = true
  | .dcr => silent s.dcr.mem
  | .iir3 => silent s.iir3.y1 ∧ silent s.iir3.y2
  | .rclp => silent s.rclp.last ∧ F64.isFinite s.rclp.alpha = true
  | .rcbp => silent s.rcbp.hp.last ∧ silent s.rcbp.lp.last ∧ F64.isFinite s.rcbp.hp.alpha = true ∧
      F64.isFinite s.rcbp.lp.alpha = true
  | .moog => (∀ i : Fin 4, silent (s.moog.stage i).prevIn ∧ silent (s.moog.stage i).prevOut) ∧
      F64.isFinite s.moog.f = true ∧ F64.isFinite s.moog.af = true ∧ F64.isFinite s.moog.sqf = true ∧
      F64.isFinite s.moog.fb = true
  | .bw => F64.isFinite s.bw.gain = true ∧ ∀ i : Fin 2,
      silent (s.bw.section i).x1 ∧ silent (s.bw.section i).x2 ∧ silent (s.bw.section i).y1 ∧ silent (s.bw.section i).y2 ∧
      F64.isFinite (s.bw.section i).coefs.a0 = true ∧ F64.isFinite (s.bw.section i).coefs.a1 = true ∧
      F64.isFinite (s.bw.section i).coefs.a2 = true ∧ F64.isFinite (s.bw.section i).coefs.b1 = true ∧
      F64.isFinite (s.bw.section i).coefs.b2 = true

/-- All history cells of the delay line are zeros and its gain is finite (46_delay.md R218). -/
def DelaySilent (s : State) : Prop :=
  (∀ v ∈ s.delay.fifo, silent v) ∧ silent s.delay.cell ∧ F64.isFinite s.delay.fb = true

/-- Two states that differ at most in the pulse width `P[1]`, `PS[1]` and in what the host read last (47_block.md R238). -/
def SameButPulse (s t : State) : Prop :=
  ∃ (p ps : Vector Num64 9) (r : Word64),
    t = { s with p := p, ps := ps, rdata := r } ∧ ∀ i : Fin 9, i ≠ 1 → p[i] = s.p[i] ∧ ps[i] = s.ps[i]

/-- What a running block sees of a state: all but the host's copies of the parameters, its remaining moves and what it read
(47_block.md R239). -/
def coreView (s : State) : State := { s with p := Vector.replicate 9 F64.posZero, port := [], rdata := 0 }

/-- The accesses that are held while a block runs (20_memory.md R74): all but reads of `STATUS` and accesses to `P[0..8]`. The
pseudo-instruction `WAITBLK` waits as well (30_encoding.md R93). -/
def heldWhileBusy : HostMove → Bool
  | .write a _ => decide (a.toNat < 0x20 ∨ 0x28 < a.toNat)
  | .read a => decide (a.toNat ≠ 0x01 ∧ (a.toNat < 0x20 ∨ 0x28 < a.toNat))
  | .waitBlk => true
  | .idle => false
  | .reset => false

/-- The host has no move, or its next move is held while a block runs. -/
def HostWaits (s : State) : Prop := s.port = [] ∨ ∃ m rest, s.port = m :: rest ∧ heldWhileBusy m = true

/-- Execute commands one after another. -/
def execAll : List Instr → State → Host.Outcome State Fault Refusal
  | [], s => .next s
  | i :: is, s =>
    match exec i s with
    | .next t => execAll is t
    | .fault f => .fault f
    | .refused r => .refused r

/-- `k` steps of the machine. -/
def runSteps : Nat → State → Host.Outcome State Fault Refusal
  | 0, s => .next s
  | k + 1, s =>
    match step s with
    | .next t => runSteps k t
    | .fault f => .fault f
    | .refused r => .refused r

/-- The `PROC` command of a filter unit (30_encoding.md R88). -/
def filterProc (sat iny : Bool) : SideChain → Instr
  | .lp1 => .lp1Proc iny
  | .dcr => .dcrProc iny
  | .iir3 => .iir3Proc iny
  | .rclp => .rclpProc iny
  | .rcbp => .rcbpProc iny
  | .moog => .moogProc sat iny
  | .bw => .bwProc iny

/-- The `DELAY.PROC` command with a side-chain (30_encoding.md R88). -/
def delayProcWith (sat iny : Bool) : SideChain → Instr
  | .lp1 => .delayProcScLp1 iny
  | .dcr => .delayProcScDcr iny
  | .iir3 => .delayProcScIir3 iny
  | .rclp => .delayProcScRclp iny
  | .rcbp => .delayProcScRcbp iny
  | .moog => .delayProcScMoog sat iny
  | .bw => .delayProcScBw iny

/-- The units whose `CFGVALID` bits a command tests, in the order of the tests (60_exceptions.md R251, R253). -/
def requiredUnits : Instr → List DspUnit
  | .sineProc => [.sine]
  | .lp1Proc _ => [.lp1]
  | .rclpProc _ => [.rclp]
  | .rcbpProc _ => [.rcbp]
  | .moogProc _ _ => [.moog]
  | .bwProc _ => [.bw]
  | .harmProc => [.harm]
  | .delayProc _ => [.delay]
  | .delayProcNt _ => [.delay]
  | .delayProcScLp1 _ => [.delay, .lp1]
  | .delayProcScDcr _ => [.delay, .dcr]
  | .delayProcScIir3 _ => [.delay, .iir3]
  | .delayProcScRclp _ => [.delay, .rclp]
  | .delayProcScRcbp _ => [.delay, .rcbp]
  | .delayProcScMoog _ _ => [.delay, .moog]
  | .delayProcScBw _ => [.delay, .bw]
  | .noiseProc | .dcrProc _ | .iir3Proc _ | .blkRun | .sysNop | .sysRstAll => []
  | .sineCfg | .lp1Cfg | .rclpCfg | .rcbpCfg | .moogCfg | .bwCfg | .bwCfgLp | .bwCfgHp | .bwCfgBp | .harmCfg | .delayCfg => []
  | .sineRst | .lp1Rst | .dcrRst | .iir3Rst | .rclpRst | .rcbpRst | .moogRst | .bwRst | .harmRst | .delayRst => []

/-- The `CFG` commands (30_encoding.md R82). -/
def cfgCommands : List Instr :=
  [.sineCfg, .lp1Cfg, .rclpCfg, .rcbpCfg, .moogCfg, .bwCfg, .bwCfgLp, .bwCfgHp, .bwCfgBp, .harmCfg, .delayCfg]

/-- The `RST` commands of the ten units that have history, in the order of 41_operator_contract_sys.md R129. -/
def unitResets : List Instr :=
  [.sineRst, .lp1Rst, .dcrRst, .iir3Rst, .rclpRst, .rcbpRst, .moogRst, .bwRst, .harmRst, .delayRst]

/-- The units whose registers a command may write (10_state.md R51): its own, and those it invokes. -/
def writtenUnits (i : Instr) : List DspUnit :=
  match i with
  | .sineProc | .sineCfg | .sineRst => [.sine]
  | .noiseProc => [.noise]
  | .lp1Proc _ | .lp1Cfg | .lp1Rst => [.lp1]
  | .dcrProc _ | .dcrRst => [.dcr]
  | .iir3Proc _ | .iir3Rst => [.iir3]
  | .rclpProc _ | .rclpCfg | .rclpRst => [.rclp]
  | .rcbpProc _ | .rcbpCfg | .rcbpRst => [.rcbp]
  | .moogProc _ _ | .moogCfg | .moogRst => [.moog]
  | .bwProc _ | .bwCfg | .bwRst | .bwCfgLp | .bwCfgHp | .bwCfgBp => [.bw]
  | .harmProc | .harmCfg | .harmRst => [.harm]
  | .delayProc _ | .delayCfg | .delayRst | .delayProcNt _ => [.delay]
  | .delayProcScLp1 _ => [.delay, .lp1]
  | .delayProcScDcr _ => [.delay, .dcr]
  | .delayProcScIir3 _ => [.delay, .iir3]
  | .delayProcScRclp _ => [.delay, .rclp]
  | .delayProcScRcbp _ => [.delay, .rcbp]
  | .delayProcScMoog _ _ => [.delay, .moog]
  | .delayProcScBw _ => [.delay, .bw]
  | .blkRun => [.blk, .harm, .moog]
  | .sysNop => []
  | .sysRstAll => [.sine, .lp1, .dcr, .iir3, .rclp, .rcbp, .moog, .bw, .harm, .delay]

/-- The sum `HARM.PROC` forms over slots `0 .. n-1`, ascending: amplitude times sine of the phase (45_harmonic.md R203). -/
def bankSum (lutBits : Nat) (amp phase : Nat → Num64) : Nat → Num64
  | 0 => F64.posZero
  | n + 1 => F64.add (bankSum lutBits amp phase n) (F64.mul (amp n) (sin2pi lutBits (phase n)))

/-- The outputs of `DELAY.PROC` on a sequence of inputs, each put into `X` (46_delay.md R218); none where a command does not
give a next state. -/
def feedDelay : List Num64 → State → Option (List Num64)
  | [], _ => some []
  | x :: xs, s =>
    match exec (.delayProc false) { s with x := x } with
    | .next t => (feedDelay xs t).map (t.y :: ·)
    | _ => none

/-- The last iteration of the loop of 44_butterworth.md R185: `k` from `n / 2` down to 1, each overwriting the result. -/
def bwLoop (lutBits : Nat) (hp : Bool) (wc : Num64) (n : Nat) : Option BwCoefs :=
  (List.range (n / 2)).reverse.foldl (fun _ j => some (bwBiquad lutBits hp wc n (j + 1))) none

/-- The checks of `BW_DESIGN` step 1 in their order, each with what it records when it fails (44_butterworth.md R181). -/
def bwChecks (lutBits : Nat) (srate fpass fstop hpass hstop : Num64) : List (Bool × ErrCause × Num64) :=
  let nyq := F64.div srate F64.two
  let wp := tanw lutBits srate fpass
  let ws := tanw lutBits srate fstop
  [(F64.lt F64.posZero fpass && F64.lt fpass nyq, .bwFpass, fpass),
   (F64.lt F64.posZero fstop && F64.lt fstop nyq, .bwFstop, fstop),
   (!F64.feq fpass fstop, .bwFeq, fstop),
   (F64.lt F64.posZero hpass && F64.lt hpass F64.one, .bwHpass, hpass),
   (F64.lt F64.posZero hstop && F64.lt hstop F64.one, .bwHstop, hstop),
   (F64.isFinite wp && F64.lt F64.posZero wp, .bwWarp, fpass),
   (F64.isFinite ws && F64.lt F64.posZero ws, .bwWarp, fstop)]

end Sys2Proof.Machine

namespace Sys2Proof.F64

/-- The exact value of a finite `NUM` (20_memory.md R61). -/
def value (x : Num64) : ℚ := (scaled x : ℚ) / 2 ^ 1074

/-- The value of a `NUM` that is not NaN. -/
noncomputable def extValue (x : Num64) : EReal :=
  if isInf x then (if neg x then ⊥ else ⊤) else (((value x : ℚ) : ℝ) : EReal)

/-- From this magnitude on a result rounds to an infinity: half a unit in the last place past the greatest finite value. -/
def overflowBound : ℝ := 2 ^ 1024 - 2 ^ 970

/-- `z` is the exact result `r` rounded once: to nearest, ties to even, an infinity on overflow, the sign kept
(40_function_units.md R100). -/
structure RoundsTo (r : ℝ) (z : Num64) : Prop where
  overflow : overflowBound ≤ |r| → isInf z = true
  finite : |r| < overflowBound → isFinite z = true
  nearest : |r| < overflowBound → ∀ y : Num64, isFinite y = true → |r - (value z : ℝ)| ≤ |r - (value y : ℝ)|
  even : |r| < overflowBound → ∀ y : Num64, isFinite y = true → value y ≠ value z →
    |r - (value y : ℝ)| = |r - (value z : ℝ)| → z.getLsbD 0 = false
  sign : r ≠ 0 → neg z = decide (r < 0)

end Sys2Proof.F64
end

