-- ==== Sys2Proof/Certificates/Slice0/Obligations.lean ====
section
/-! DEFINITION. The statements about DSC, from the numbered rules of spec/: encodings, what every command does and leaves alone, the
host port, the errors, the running block, the arithmetic, and the invariants of the whole machine. -/

open Sys2Proof Sys2Proof.Machine

/-! ## Encoding -/

/-- A word decodes to a command exactly when it is that command's encoding (30_encoding.md R80, R81, R88). -/
def Obligations.DecodeIffEncode : Prop :=
  ∀ (w : Word32) (i : Instr), decode w = .ok i ↔ w = encode i

/-- A word is legal exactly when its fields are, and then it matches one row of the opcode map and no other
(30_encoding.md R80, R82 to R87, R89). -/
def Obligations.LegalWordIffLegalFields : Prop :=
  opRows.length = 43 ∧
  ∀ w : Word32,
    ((∃ i, decode w = .ok i) ↔ (fieldsOfWord w).wellFormed = true) ∧
    (opRows.filter (fun r => r.matchesWord w)).length = (if (fieldsOfWord w).wellFormed then 1 else 0)

/-- A few words of the opcode map, and a few of the words R89 names, decoded. -/
def Obligations.SampleWordsDecode : Prop :=
  decode 0x00000001#32 = .ok .sineProc ∧
  decode 0x00000221#32 = .ok (.lp1Proc true) ∧
  decode 0x00000371#32 = .ok (.moogProc true true) ∧
  decode 0x00000084#32 = .ok .bwCfgLp ∧
  decode 0x00001DA1#32 = .ok (.delayProcScMoog true false) ∧
  decode 0x000000B1#32 = .ok .blkRun ∧
  decode 0x00000012#32 = .error .illegalCommand ∧
  decode 0x000000C1#32 = .error .illegalCommand ∧
  decode 0x000004A1#32 = .error .illegalCommand ∧
  decode 0x00004001#32 = .error .illegalCommand

/-- A step whose host move writes a legal word to `CMD` while no block runs is that command's execution, the move being used up;
bits 63:32 of the data do not matter (10_state.md R29, 30_encoding.md R87, 20_memory.md R62). -/
def Obligations.StepRunsDecodedCommand : Prop :=
  ∀ (s : State) (v : Word64) (rest : List HostMove) (i : Instr),
    s.busy = false → s.port = .write 0x00006#18 v :: rest → decode (v.setWidth 32) = .ok i →
      step s = exec i { s with port := rest }

/-- An illegal word written to `CMD` changes nothing but the error record and its flag (60_exceptions.md R256,
30_encoding.md R89). -/
def Obligations.IllegalWordExecutesNothing : Prop :=
  ∀ (s : State) (v : Word64) (rest : List HostMove),
    s.busy = false → s.port = .write 0x00006#18 v :: rest → (∀ i, encode i ≠ v.setWidth 32) →
      step s = .next { s with
        port := rest
        errcode := 0x01#32
        errinfo := v.setWidth 32
        errval := F64.posZero
        status := s.status ||| 0x04#32 }

/-! ## Commands: encoding, result, and everything left unchanged -/

/-- `SINE.CFG`, `SINE.PROC`, `SINE.RST` (42_primitives.md R140 to R142). -/
def Obligations.SineCommands : Prop :=
  encode .sineCfg = 0x00000002#32 ∧ encode .sineProc = 0x00000001#32 ∧ encode .sineRst = 0x00000003#32 ∧
  ∀ s : State,
    exec .sineCfg s = .next { s with
      sine := { s.sine with freq := s.arg[0], inc := F64.div s.arg[0] s.srate }
      cfgvalid := s.cfgvalid ||| 0x001#32 } ∧
    (s.configured .sine = true → exec .sineProc s = .next { s with
      sine := { s.sine with phase := F64.add s.sine.phase s.sine.inc }
      y := sin2pi s.conf.lutBits (F64.add s.sine.phase s.sine.inc) }) ∧
    (s.configured .sine = false →
      exec .sineProc s = .next (recordError .notConfigured 0x00000001#32 F64.posZero s)) ∧
    exec .sineRst s = .next { s with sine := { s.sine with phase := F64.posZero } }

/-- `NOISE.PROC`, for every noise sequence (the model's free value, notes/assumptions/4.md), whose values lie in `[-1, 1]`
(42_primitives.md R143). -/
def Obligations.NoiseCommand : Prop :=
  encode .noiseProc = 0x00000011#32 ∧
  (∀ s : State, exec .noiseProc s = .next { s with y := noise s.noiseIdx.toNat, noiseIdx := s.noiseIdx + 1 }) ∧
  ∀ k, F64.le F64.negOne (noise k) = true ∧ F64.le (noise k) F64.one = true

/-- `LP1.CFG`, `LP1.PROC`, `LP1.RST` (42_primitives.md R144 to R146). -/
def Obligations.Lp1Commands : Prop :=
  encode .lp1Cfg = 0x00000022#32 ∧ encode (.lp1Proc false) = 0x00000021#32 ∧ encode (.lp1Proc true) = 0x00000221#32 ∧
  encode .lp1Rst = 0x00000023#32 ∧
  ∀ (s : State) (iny : Bool),
    ((F64.lt F64.posZero s.arg[0] && F64.le s.arg[0] F64.one) = true → exec .lp1Cfg s = .next { s with
      lp1 := { s.lp1 with k := s.arg[0] }
      cfgvalid := s.cfgvalid ||| 0x004#32 }) ∧
    ((F64.lt F64.posZero s.arg[0] && F64.le s.arg[0] F64.one) = false →
      exec .lp1Cfg s = .next (recordError .lp1K 0x00000022#32 s.arg[0] s)) ∧
    (s.configured .lp1 = true →
      let mem := F64.add (F64.mul s.lp1.k (if iny then s.y else s.x))
        (F64.mul (F64.sub 0x3FF0000000000000#64 s.lp1.k) s.lp1.mem)
      exec (.lp1Proc iny) s = .next { s with lp1 := { s.lp1 with mem := mem }, y := mem }) ∧
    (s.configured .lp1 = false →
      exec (.lp1Proc iny) s = .next (recordError .notConfigured (encode (.lp1Proc iny)) F64.posZero s)) ∧
    exec .lp1Rst s = .next { s with lp1 := { s.lp1 with mem := F64.posZero } }

/-- `DCR.PROC`, `DCR.RST` with the constants 0.01 and 0.99; `IIR3.PROC`, `IIR3.RST` with the four constants of the configuration
record (42_primitives.md R147 to R150). -/
def Obligations.DcrAndIir3Commands : Prop :=
  encode (.dcrProc false) = 0x00000031#32 ∧ encode (.dcrProc true) = 0x00000231#32 ∧ encode .dcrRst = 0x00000033#32 ∧
  encode (.iir3Proc false) = 0x00000041#32 ∧ encode (.iir3Proc true) = 0x00000241#32 ∧ encode .iir3Rst = 0x00000043#32 ∧
  ∀ (s : State) (iny : Bool),
    let x := if iny then s.y else s.x
    let mem := F64.add (F64.mul 0x3F847AE147AE147B#64 x) (F64.mul 0x3FEFAE147AE147AE#64 s.dcr.mem)
    let y := F64.mul s.conf.iir3Amp (F64.add (F64.add (F64.mul s.conf.iir3Cx x) (F64.mul s.conf.iir3Cy1 s.iir3.y1))
      (F64.mul s.conf.iir3Cy2 s.iir3.y2))
    exec (.dcrProc iny) s = .next { s with dcr := { mem := mem }, y := F64.sub x mem } ∧
    exec .dcrRst s = .next { s with dcr := { mem := F64.posZero } } ∧
    exec (.iir3Proc iny) s = .next { s with iir3 := { y1 := y, y2 := s.iir3.y1 }, y := y } ∧
    exec .iir3Rst s = .next { s with iir3 := { y1 := F64.posZero, y2 := F64.posZero } }

/-- The RC filters `RCLP` and `RCBP`: coefficients, recurrence, reset (42_primitives.md R151 to R157). -/
def Obligations.RcCommands : Prop :=
  encode .rclpCfg = 0x00000052#32 ∧ encode (.rclpProc false) = 0x00000051#32 ∧ encode (.rclpProc true) = 0x00000251#32 ∧
  encode .rclpRst = 0x00000053#32 ∧
  encode .rcbpCfg = 0x00000062#32 ∧ encode (.rcbpProc false) = 0x00000061#32 ∧ encode (.rcbpProc true) = 0x00000261#32 ∧
  encode .rcbpRst = 0x00000063#32 ∧
  ∀ (s : State) (iny : Bool),
    let x := if iny then s.y else s.x
    let dt := F64.div 0x3FF0000000000000#64 s.srate
    let set : RcLeg → Num64 → RcLeg := fun l f =>
      if F64.lt F64.posZero f then
        let rc := F64.div 0x3FF0000000000000#64 (F64.mul 0x401921FB54442D18#64 f)
        { dt := dt, rc := rc, alpha := F64.div dt (F64.add rc dt), last := l.last }
      else { dt := dt, rc := F64.posInf, alpha := F64.posZero, last := l.last }
    let advance : RcLeg → Num64 → RcLeg := fun l v =>
      { l with last := F64.add l.last (F64.mul l.alpha (F64.sub v l.last)) }
    exec .rclpCfg s = .next { s with rclp := set s.rclp s.arg[0], cfgvalid := s.cfgvalid ||| 0x020#32 } ∧
    (s.configured .rclp = true →
      exec (.rclpProc iny) s = .next { s with rclp := advance s.rclp x, y := (advance s.rclp x).last }) ∧
    (s.configured .rclp = false →
      exec (.rclpProc iny) s = .next (recordError .notConfigured (encode (.rclpProc iny)) F64.posZero s)) ∧
    exec .rclpRst s = .next { s with rclp := { s.rclp with last := F64.posZero } } ∧
    exec .rcbpCfg s = .next { s with
      rcbp := { hp := set s.rcbp.hp s.arg[0], lp := set s.rcbp.lp s.arg[1] }
      cfgvalid := s.cfgvalid ||| 0x040#32 } ∧
    (s.configured .rcbp = true →
      let hp := advance s.rcbp.hp x
      let lp := advance s.rcbp.lp (F64.sub x hp.last)
      exec (.rcbpProc iny) s = .next { s with rcbp := { hp := hp, lp := lp }, y := lp.last }) ∧
    (s.configured .rcbp = false →
      exec (.rcbpProc iny) s = .next (recordError .notConfigured (encode (.rcbpProc iny)) F64.posZero s)) ∧
    exec .rcbpRst s = .next { s with rcbp :=
      { hp := { s.rcbp.hp with last := F64.posZero }, lp := { s.rcbp.lp with last := F64.posZero } } }

/-- `MOOG.CFG` and `MOOG.RST`: both clamps, the derived scalars, the eight history cells (43_moog.md R170, R173). -/
def Obligations.MoogConfigureAndReset : Prop :=
  encode .moogCfg = 0x00000072#32 ∧ encode .moogRst = 0x00000073#32 ∧
  ∀ s : State,
    (let fh := if F64.le F64.posZero s.arg[0] then s.arg[0] else F64.posZero
     let raw := F64.div (F64.mul 0x401921FB54442D18#64 fh) s.srate
     let f := if F64.lt 0x400921FB54442D18#64 raw then 0x400921FB54442D18#64 else raw
     let sqf := F64.mul f f
     exec .moogCfg s = .next { s with
       moog := { s.moog with
         f := f
         af := F64.sub 0x3FF0000000000000#64 f
         sqf := sqf
         fb := F64.mul s.arg[1] (F64.sub 0x3FF0000000000000#64 (F64.mul 0x3FC3333333333333#64 sqf))
         res := s.arg[1] }
       cfgvalid := s.cfgvalid ||| 0x080#32 }) ∧
    exec .moogRst s = .next { s with moog := { s.moog with
      st1 := ⟨F64.posZero, F64.posZero⟩
      st2 := ⟨F64.posZero, F64.posZero⟩
      st3 := ⟨F64.posZero, F64.posZero⟩
      st4 := ⟨F64.posZero, F64.posZero⟩ } }

/-- `MOOG.PROC`: one ladder step, the hard clip to `[-1, 1]` (NaN to `+0`) on the result only (43_moog.md R172,
40_function_units.md R109). -/
def Obligations.MoogProcess : Prop :=
  encode (.moogProc false false) = 0x00000071#32 ∧ encode (.moogProc true false) = 0x00000171#32 ∧
  encode (.moogProc false true) = 0x00000271#32 ∧ encode (.moogProc true true) = 0x00000371#32 ∧
  ∀ (s : State) (sat iny : Bool),
    (s.configured .moog = true →
      let x := if iny then s.y else s.x
      let u1 := F64.mul (F64.sub x (F64.mul s.moog.st4.prevOut s.moog.fb))
        (F64.mul 0x3FD66887A8D64D7F#64 (F64.mul s.moog.sqf s.moog.sqf))
      let out : Num64 → Stage → Num64 := fun u st =>
        F64.add (F64.add u (F64.mul 0x3FD3333333333333#64 st.prevIn)) (F64.mul s.moog.af st.prevOut)
      let o1 := out u1 s.moog.st1
      let o2 := out o1 s.moog.st2
      let o3 := out o2 s.moog.st3
      let o4 := out o3 s.moog.st4
      exec (.moogProc sat iny) s = .next { s with
        moog := { s.moog with st1 := ⟨u1, o1⟩, st2 := ⟨o1, o2⟩, st3 := ⟨o2, o3⟩, st4 := ⟨o3, o4⟩ }
        y :=
          if sat then
            if F64.isNaN o4 then 0x0000000000000000#64
            else if F64.lt 0x3FF0000000000000#64 o4 then 0x3FF0000000000000#64
            else if F64.lt o4 0xBFF0000000000000#64 then 0xBFF0000000000000#64
            else o4
          else o4 }) ∧
    (s.configured .moog = false →
      exec (.moogProc sat iny) s = .next (recordError .notConfigured (encode (.moogProc sat iny)) F64.posZero s))

/-- With `SAT = 1` the ladder's result lies in `[-1, 1]`, in every configured state and for every input, finite or not
(43_moog.md R172, 40_function_units.md R109). -/
def Obligations.SaturatedLadderBounded : Prop :=
  ∀ (s : State) (iny : Bool), s.configured .moog = true →
    ∃ t, exec (.moogProc true iny) s = .next t ∧ F64.le F64.negOne t.y = true ∧ F64.le t.y F64.one = true

/-- `BW.PROC` and `BW.RST`: one or two sections, the gain on the result only (44_butterworth.md R190 to R192). -/
def Obligations.BwProcessAndReset : Prop :=
  encode (.bwProc false) = 0x00000081#32 ∧ encode (.bwProc true) = 0x00000281#32 ∧ encode .bwRst = 0x00000083#32 ∧
  ∀ (s : State) (iny : Bool),
    let x := if iny then s.y else s.x
    let out : BwSection → Num64 → Num64 := fun sec v =>
      F64.sub (F64.sub (F64.add (F64.add (F64.mul sec.coefs.a0 v) (F64.mul sec.coefs.a1 sec.x1)) (F64.mul sec.coefs.a2 sec.x2))
        (F64.mul sec.coefs.b1 sec.y1)) (F64.mul sec.coefs.b2 sec.y2)
    let shift : BwSection → Num64 → BwSection := fun sec v =>
      { sec with x2 := sec.x1, x1 := v, y2 := sec.y1, y1 := out sec v }
    let clear : BwSection → BwSection := fun sec =>
      { sec with x1 := F64.posZero, x2 := F64.posZero, y1 := F64.posZero, y2 := F64.posZero }
    let y0 := out s.bw.s0 x
    (s.configured .bw = true → s.bw.mode ≠ 3#32 → exec (.bwProc iny) s = .next { s with
      bw := { s.bw with s0 := shift s.bw.s0 x }
      y := F64.mul s.bw.gain y0 }) ∧
    (s.configured .bw = true → s.bw.mode = 3#32 → exec (.bwProc iny) s = .next { s with
      bw := { s.bw with s0 := shift s.bw.s0 x, s1 := shift s.bw.s1 y0 }
      y := F64.mul s.bw.gain (out s.bw.s1 y0) }) ∧
    (s.configured .bw = false →
      exec (.bwProc iny) s = .next (recordError .notConfigured (encode (.bwProc iny)) F64.posZero s)) ∧
    exec .bwRst s = .next { s with bw := { s.bw with s0 := clear s.bw.s0, s1 := clear s.bw.s1 } }

/-- `BW_DESIGN`: the first failed check of step 1, in the order of the rule, is the error; when none fails, the order check, then the
order, the cutoff and the biquad of `k = 1` (44_butterworth.md R180 to R184). -/
def Obligations.BwDesignSteps : Prop :=
  ∀ (c : Config) (srate fpass fstop hpass hstop : Num64),
    let one : Num64 := 0x3FF0000000000000#64
    let two : Num64 := 0x4000000000000000#64
    let wp := tanw c.lutBits srate fpass
    let ws := tanw c.lutBits srate fstop
    let hp := F64.lt fstop fpass
    let ep := F64.sub (F64.div one (F64.mul hpass hpass)) one
    let es := F64.sub (F64.div one (F64.mul hstop hstop)) one
    let ratio := if hp then F64.div wp ws else F64.div ws wp
    let nr := F64.div (F64.log2 (F64.div es ep)) (F64.mul two (F64.log2 ratio))
    let n0 := if F64.ceil nr < 2 then 2 else F64.ceil nr
    let n := (if n0 % 2 = 1 then n0 + 1 else n0).toNat
    let g := F64.exp2 (F64.mul (F64.log2 es) (F64.div one (F64.mul two (F64.ofNat n))))
    let wc := if hp then F64.mul ws g else F64.div ws g
    match (bwChecks c.lutBits srate fpass fstop hpass hstop).find? (fun k => !k.1) with
    | some (_, cause, v) => bwDesign c srate fpass fstop hpass hstop = .error (cause, v)
    | none =>
      (F64.isFinite nr = false ∨ F64.lt (F64.ofNat c.bwOrderMax) nr = true →
        bwDesign c srate fpass fstop hpass hstop = .error (.bwOrder, nr)) ∧
      (F64.isFinite nr = true → F64.lt (F64.ofNat c.bwOrderMax) nr = false →
        bwDesign c srate fpass fstop hpass hstop = .ok (bwBiquad c.lutBits hp wc n 1))

/-- The biquad of a pole pair, and the loop over the pole pairs keeps the one of its last iteration, `k = 1`
(44_butterworth.md R185). -/
def Obligations.BwLoopKeepsLastPolePair : Prop :=
  (∀ (lutBits : Nat) (hp : Bool) (wc : Num64) (n k : Nat),
    let one : Num64 := 0x3FF0000000000000#64
    let two : Num64 := 0x4000000000000000#64
    let sn := sin2pi lutBits (F64.div (F64.ofNat (2 * k - 1)) (F64.ofNat (4 * n)))
    let w2 := F64.mul wc wc
    let tw := F64.mul (F64.mul two wc) sn
    let d := F64.add (F64.add one tw) w2
    let a0 := if hp then F64.div one d else F64.div w2 d
    bwBiquad lutBits hp wc n k = {
      a0 := a0
      a1 := if hp then F64.sub F64.posZero (F64.mul two a0) else F64.mul two a0
      a2 := a0
      b1 := F64.div (F64.mul two (F64.sub w2 one)) d
      b2 := F64.div (F64.add (F64.sub one tw) w2) d
      n := BitVec.ofNat 32 n
      wc := wc
      hp := if hp then 1#32 else 0#32 }) ∧
  ∀ (lutBits : Nat) (hp : Bool) (wc : Num64) (n : Nat), 2 ≤ n →
    bwLoop lutBits hp wc n = some (bwBiquad lutBits hp wc n 1)

/-- The four `BW` configure commands: what a design writes, and that a failed one writes nothing but the error record
(44_butterworth.md R186 to R189). -/
def Obligations.BwConfigure : Prop :=
  encode .bwCfg = 0x00000082#32 ∧ encode .bwCfgLp = 0x00000084#32 ∧ encode .bwCfgHp = 0x00000085#32 ∧
  encode .bwCfgBp = 0x00000086#32 ∧
  ∀ s : State,
    let above := F64.add s.arg[0] (F64.div s.arg[0] s.arg[2])
    let below := F64.sub s.arg[0] (F64.div s.arg[0] s.arg[2])
    let raw := bwDesign s.conf s.srate s.arg[0] s.arg[1] s.arg[2] s.arg[3]
    let low := bwDesign s.conf s.srate s.arg[0] above 0x3FEE666666666666#64 0x3FA999999999999A#64
    let high := bwDesign s.conf s.srate s.arg[0] below 0x3FEE666666666666#64 0x3FA999999999999A#64
    (∀ d, raw = .ok d → exec .bwCfg s = .next { s with
      bw := { s.bw with mode := 0#32, gain := 0x3FF0000000000000#64, s0 := { s.bw.s0 with coefs := d } }
      cfgvalid := s.cfgvalid ||| 0x100#32 }) ∧
    (∀ c v, raw = .error (c, v) → exec .bwCfg s = .next (recordError c 0x00000082#32 v s)) ∧
    (∀ d, low = .ok d → exec .bwCfgLp s = .next { s with
      bw := { s.bw with mode := 1#32, gain := s.arg[1], s0 := { s.bw.s0 with coefs := d } }
      cfgvalid := s.cfgvalid ||| 0x100#32 }) ∧
    (∀ c v, low = .error (c, v) → exec .bwCfgLp s = .next (recordError c 0x00000084#32 v s)) ∧
    (∀ d, high = .ok d → exec .bwCfgHp s = .next { s with
      bw := { s.bw with mode := 2#32, gain := s.arg[1], s0 := { s.bw.s0 with coefs := d } }
      cfgvalid := s.cfgvalid ||| 0x100#32 }) ∧
    (∀ c v, high = .error (c, v) → exec .bwCfgHp s = .next (recordError c 0x00000085#32 v s)) ∧
    (∀ d0 d1, high = .ok d0 → low = .ok d1 → exec .bwCfgBp s = .next { s with
      bw := { mode := 3#32, gain := s.arg[1], s0 := { s.bw.s0 with coefs := d0 }, s1 := { s.bw.s1 with coefs := d1 } }
      cfgvalid := s.cfgvalid ||| 0x100#32 }) ∧
    (∀ c v, high = .error (c, v) → exec .bwCfgBp s = .next (recordError c 0x00000086#32 v s)) ∧
    (∀ d c v, high = .ok d → low = .error (c, v) → exec .bwCfgBp s = .next (recordError c 0x00000086#32 v s))

/-- `HARM.CFG`: the count, the six registers, increment and amplitude of every active slot; every other word of the memory, all
phases among them, is as before (45_harmonic.md R200, R201). -/
def Obligations.HarmConfigure : Prop :=
  encode .harmCfg = 0x00000092#32 ∧
  ∀ s : State, Inv s →
    let one : Num64 := 0x3FF0000000000000#64
    let c : Nat :=
      if F64.isNaN s.arg[0] || F64.lt s.arg[0] one then 1
      else if F64.lt (F64.ofNat s.conf.harmMax) s.arg[0] then s.conf.harmMax
      else (F64.floor s.arg[0]).toNat
    let finc := F64.div one s.srate
    let w := F64.mul s.arg[4] s.arg[3]
    let m : Nat → Num64 := fun h => F64.sub (F64.ofNat h) s.arg[2]
    let window : Num64 → Num64 := fun d =>
      if F64.lt F64.posZero w then
        if F64.le 0xBFF0000000000000#64 (F64.div d w) && F64.le (F64.div d w) one then
          F64.mul 0x3FE0000000000000#64
            (F64.add one (cos2pi s.conf.lutBits (F64.div (F64.div d w) 0x4000000000000000#64)))
        else F64.posZero
      else F64.posZero
    ∃ mem : Memory,
      exec .harmCfg s = .next { s with
        mem := mem
        harm := { count := BitVec.ofNat 32 c, basef := s.arg[1], offset := s.arg[2], center := s.arg[3], width := s.arg[4],
                  master := s.arg[5], finc := finc }
        cfgvalid := s.cfgvalid ||| 0x200#32 } ∧
      mem.wf = true ∧
      (∀ h < c, mem.read (0x03000 + h) = F64.mul (F64.mul finc s.arg[1]) (m h) ∧
        mem.read (0x02000 + h) = window (F64.sub (F64.mul s.arg[1] (m h)) s.arg[3])) ∧
      ∀ a, (∀ h < c, a ≠ 0x03000 + h ∧ a ≠ 0x02000 + h) → mem.read a = s.mem.read a

/-- `HARM.PROC` and `HARM.RST`: the phases of the active slots advance by their increments, the result is the normalised weighted sum
over the advanced phases; every other word of the memory is as before; reset zeroes all phases and nothing else
(45_harmonic.md R202 to R204). -/
def Obligations.HarmProcessAndReset : Prop :=
  encode .harmProc = 0x00000091#32 ∧ encode .harmRst = 0x00000093#32 ∧
  ∀ s : State, Inv s →
    let n := s.harm.count.toNat
    let phase : Nat → Num64 := fun h => F64.add (s.mem.read (0x01000 + h)) (s.mem.read (0x03000 + h))
    (s.configured .harm = true → ∃ mem : Memory,
      exec .harmProc s = .next { s with
        mem := mem
        y := F64.mul (F64.div (bankSum s.conf.lutBits (fun h => s.mem.read (0x02000 + h)) phase n) (F64.ofNat n))
          s.harm.master } ∧
      mem.wf = true ∧ (∀ h < n, mem.read (0x01000 + h) = phase h) ∧
      ∀ a, (∀ h < n, a ≠ 0x01000 + h) → mem.read a = s.mem.read a) ∧
    (s.configured .harm = false →
      exec .harmProc s = .next (recordError .notConfigured 0x00000091#32 F64.posZero s)) ∧
    ∃ mem : Memory,
      exec .harmRst s = .next { s with mem := mem } ∧ mem.wf = true ∧
      (∀ h < s.conf.harmMax, mem.read (0x01000 + h) = F64.posZero) ∧
      ∀ a, (∀ h < s.conf.harmMax, a ≠ 0x01000 + h) → mem.read a = s.mem.read a

/-- `DELAY.CFG` and `DELAY.RST`: the checks in their order, the floored length, the oldest entries dropped; the history emptied
(46_delay.md R217, R219). -/
def Obligations.DelayConfigureAndReset : Prop :=
  encode .delayCfg = 0x000000A2#32 ∧ encode .delayRst = 0x000000A3#32 ∧
  ∀ s : State,
    let longEnough := F64.le 0x3FF0000000000000#64 s.arg[0]
    let tooLong := F64.le (F64.ofNat (s.conf.delayMax + 1)) s.arg[0]
    let gain := F64.le F64.posZero s.arg[1] && F64.lt s.arg[1] 0x3FF0000000000000#64
    let n := (F64.floor s.arg[0]).toNat
    (longEnough = false → exec .delayCfg s = .next (recordError .dlLenNonPos 0x000000A2#32 s.arg[0] s)) ∧
    (longEnough = true → tooLong = true → exec .delayCfg s = .next (recordError .dlLenMax 0x000000A2#32 s.arg[0] s)) ∧
    (longEnough = true → tooLong = false → gain = false →
      exec .delayCfg s = .next (recordError .dlFb 0x000000A2#32 s.arg[1] s)) ∧
    (longEnough = true → tooLong = false → gain = true → exec .delayCfg s = .next { s with
      delay := { s.delay with n := BitVec.ofNat 32 n, fb := s.arg[1], fifo := s.delay.fifo.drop (s.delay.fifo.length - n) }
      cfgvalid := s.cfgvalid ||| 0x400#32 }) ∧
    exec .delayRst s = .next { s with delay := { s.delay with fifo := [], cell := F64.posZero } }

/-- `DELAY.PROC` without a side-chain and `DELAY.PROCNT`: a full line returns its oldest sample, a filling one `+0`; the total is pushed;
the legacy mode uses the one cell (46_delay.md R218, R220). -/
def Obligations.DelayProcess : Prop :=
  encode (.delayProc false) = 0x000000A1#32 ∧ encode (.delayProc true) = 0x000002A1#32 ∧
  encode (.delayProcNt false) = 0x000000A4#32 ∧ encode (.delayProcNt true) = 0x000002A4#32 ∧
  ∀ (s : State) (iny : Bool),
    let x := if iny then s.y else s.x
    (s.configured .delay = true → s.delay.fifo.length ≠ s.delay.n.toNat → exec (.delayProc iny) s = .next { s with
      delay := { s.delay with fifo := s.delay.fifo ++ [F64.add x (F64.mul s.delay.fb F64.posZero)] }
      y := F64.posZero }) ∧
    (∀ d rest, s.configured .delay = true → s.delay.fifo = d :: rest → s.delay.fifo.length = s.delay.n.toNat →
      exec (.delayProc iny) s = .next { s with
        delay := { s.delay with fifo := rest ++ [F64.add x (F64.mul s.delay.fb d)] }
        y := d }) ∧
    (s.configured .delay = true → exec (.delayProcNt iny) s = .next { s with
      delay := { s.delay with cell := F64.add x (F64.mul s.delay.fb s.delay.cell) }
      y := s.delay.cell }) ∧
    (s.configured .delay = false →
      exec (.delayProc iny) s = .next (recordError .notConfigured (encode (.delayProc iny)) F64.posZero s) ∧
      exec (.delayProcNt iny) s = .next (recordError .notConfigured (encode (.delayProcNt iny)) F64.posZero s))

/-- `DELAY.PROC` with any of the seven side-chains: the words of its rows and of the `PROC` it invokes; the total goes through that unit's
own `PROC`, what the unit returns is pushed, `Y` receives the delayed sample only (46_delay.md R218, R221; 30_encoding.md R88). -/
def Obligations.DelaySideChains : Prop :=
  (∀ sat iny : Bool,
    encode (delayProcWith sat iny .lp1) = (if iny then 0x00000AA1#32 else 0x000008A1#32) ∧
    encode (delayProcWith sat iny .dcr) = (if iny then 0x00000EA1#32 else 0x00000CA1#32) ∧
    encode (delayProcWith sat iny .iir3) = (if iny then 0x000012A1#32 else 0x000010A1#32) ∧
    encode (delayProcWith sat iny .rclp) = (if iny then 0x000016A1#32 else 0x000014A1#32) ∧
    encode (delayProcWith sat iny .rcbp) = (if iny then 0x00001AA1#32 else 0x000018A1#32) ∧
    encode (delayProcWith sat iny .bw) = (if iny then 0x000022A1#32 else 0x000020A1#32) ∧
    encode (filterProc sat iny .lp1) = (if iny then 0x00000221#32 else 0x00000021#32) ∧
    encode (filterProc sat iny .dcr) = (if iny then 0x00000231#32 else 0x00000031#32) ∧
    encode (filterProc sat iny .iir3) = (if iny then 0x00000241#32 else 0x00000041#32) ∧
    encode (filterProc sat iny .rclp) = (if iny then 0x00000251#32 else 0x00000051#32) ∧
    encode (filterProc sat iny .rcbp) = (if iny then 0x00000261#32 else 0x00000061#32) ∧
    encode (filterProc sat iny .bw) = (if iny then 0x00000281#32 else 0x00000081#32)) ∧
  encode (delayProcWith false false .moog) = 0x00001CA1#32 ∧ encode (delayProcWith true false .moog) = 0x00001DA1#32 ∧
  encode (delayProcWith false true .moog) = 0x00001EA1#32 ∧ encode (delayProcWith true true .moog) = 0x00001FA1#32 ∧
  encode (filterProc false false .moog) = 0x00000071#32 ∧ encode (filterProc true false .moog) = 0x00000171#32 ∧
  encode (filterProc false true .moog) = 0x00000271#32 ∧ encode (filterProc true true .moog) = 0x00000371#32 ∧
  ∀ (s : State) (sc : SideChain) (sat iny : Bool), s.configured .delay = true → s.configured sc.unit = true →
    let x := if iny then s.y else s.x
    (s.delay.fifo.length ≠ s.delay.n.toNat →
      ∃ u, exec (filterProc sat false sc) { s with x := F64.add x (F64.mul s.delay.fb F64.posZero) } = .next u ∧
        exec (delayProcWith sat iny sc) s = .next { u with
          x := s.x
          y := F64.posZero
          delay := { s.delay with fifo := s.delay.fifo ++ [u.y] } }) ∧
    (∀ d rest, s.delay.fifo = d :: rest → s.delay.fifo.length = s.delay.n.toNat →
      ∃ u, exec (filterProc sat false sc) { s with x := F64.add x (F64.mul s.delay.fb d) } = .next u ∧
        exec (delayProcWith sat iny sc) s = .next { u with
          x := s.x
          y := d
          delay := { s.delay with fifo := rest ++ [u.y] } })

/-- `BLK.RUN`'s set-up step: the clamped snapshot, then `HARM.CFG` and `MOOG.CFG` on the translated parameters with the `ARG` registers left
alone, then the latched block state and `BUSY`; `CFGVALID[9]` and `CFGVALID[7]` are set and the bank's phases and the ladder's eight cells
carry over (47_block.md R233, R234). -/
def Obligations.BlkRunSetUp : Prop :=
  encode .blkRun = 0x000000B1#32 ∧
  ∀ s : State,
    let clamp : Fin 9 → Num64 := fun i =>
      let r := s.conf.paramTable[i]
      if F64.isNaN s.p[i] then r.dflt
      else if F64.lt s.p[i] r.min then r.min
      else if F64.lt r.max s.p[i] then r.max
      else s.p[i]
    let hz : Num64 → Num64 := fun o => F64.mul s.basehz (F64.exp2 o)
    let z := F64.posZero
    ∃ (ps : Vector Num64 9) (t u : State), (∀ i : Fin 9, ps[i] = clamp i) ∧
      exec .harmCfg { s with ps := ps, arg := #v[ps[6], hz ps[3], ps[5], hz ps[7], ps[8], ps[0]] } = .next t ∧
      exec .moogCfg { t with arg := #v[hz ps[4], ps[2], z, z, z, z] } = .next u ∧
      exec .blkRun s = .next { u with
        arg := s.arg
        blk := { idx := 0, n := s.blklen.toNat, sat := s.blkctl.getLsbD 0 }
        status := s.status ||| 0x01#32 } ∧
      u.cfgvalid = s.cfgvalid ||| 0x280#32 ∧
      (u.moog.st1 = s.moog.st1 ∧ u.moog.st2 = s.moog.st2 ∧ u.moog.st3 = s.moog.st3 ∧ u.moog.st4 = s.moog.st4) ∧
      (s.mem.wf = true → ∀ h < 0x01000, u.mem.read (0x01000 + h) = s.mem.read (0x01000 + h))

/-- `SYS.NOP` changes nothing; `SYS.RSTALL` is the ten units' `RST` commands one after another: it zeroes their history cells and changes
nothing else (41_operator_contract_sys.md R128, R129). -/
def Obligations.SysCommands : Prop :=
  encode .sysNop = 0x000000F0#32 ∧ encode .sysRstAll = 0x000000F3#32 ∧
  ∀ s : State,
    let z := F64.posZero
    let clear : BwSection → BwSection := fun b => { b with x1 := z, x2 := z, y1 := z, y2 := z }
    exec .sysNop s = .next s ∧
    ∃ mem : Memory,
      exec .sysRstAll s = .next { s with
        sine := { s.sine with phase := z }
        lp1 := { s.lp1 with mem := z }
        dcr := { mem := z }
        iir3 := { y1 := z, y2 := z }
        rclp := { s.rclp with last := z }
        rcbp := { hp := { s.rcbp.hp with last := z }, lp := { s.rcbp.lp with last := z } }
        moog := { s.moog with st1 := ⟨z, z⟩, st2 := ⟨z, z⟩, st3 := ⟨z, z⟩, st4 := ⟨z, z⟩ }
        bw := { s.bw with s0 := clear s.bw.s0, s1 := clear s.bw.s1 }
        delay := { s.delay with fifo := [], cell := z }
        mem := mem } ∧
      execAll unitResets s = exec .sysRstAll s ∧
      (s.mem.wf = true → (∀ h < s.conf.harmMax, mem.read (0x01000 + h) = z) ∧
        ∀ a, (∀ h < s.conf.harmMax, a ≠ 0x01000 + h) → mem.read a = s.mem.read a)

/-- A command that needs a unit whose `CFGVALID` bit is 0 executes nothing and records `NOT_CONFIGURED` with its own word
(60_exceptions.md R257). -/
def Obligations.NotConfiguredExecutesNothing : Prop :=
  ∀ (i : Instr) (u : DspUnit) (s : State), u ∈ requiredUnits i → s.configured u = false →
    exec i s = .next { s with
      errcode := 0x02#32
      errinfo := encode i
      errval := F64.posZero
      status := s.status ||| 0x20#32 }

/-! ## Errors -/

/-- Recording an error writes the three record registers and the flag of the code's class, nothing else; the codes and flags of every
cause (60_exceptions.md R251, R252). -/
def Obligations.ErrorRecord : Prop :=
  let rows : List (ErrCause × Word32 × Word32) :=
    [(.illegalCmd, 0x01#32, 0x04#32), (.notConfigured, 0x02#32, 0x20#32), (.busUnmapped, 0x03#32, 0x08#32),
     (.busRoWrite, 0x04#32, 0x08#32), (.busBadValue, 0x05#32, 0x08#32), (.bwFpass, 0x10#32, 0x02#32),
     (.bwFstop, 0x11#32, 0x02#32), (.bwFeq, 0x12#32, 0x02#32), (.bwHpass, 0x13#32, 0x02#32), (.bwHstop, 0x14#32, 0x02#32),
     (.bwOrder, 0x15#32, 0x02#32), (.bwWarp, 0x16#32, 0x02#32), (.dlLenNonPos, 0x20#32, 0x02#32),
     (.dlLenMax, 0x21#32, 0x02#32), (.dlFb, 0x22#32, 0x02#32), (.lp1K, 0x30#32, 0x02#32)]
  (∀ c : ErrCause, ∃ row ∈ rows, row.1 = c) ∧
  ∀ row ∈ rows, ∀ (info : Word32) (v : Num64) (s : State),
    recordError row.1 info v s =
      { s with errcode := row.2.1, errinfo := info, errval := v, status := s.status ||| row.2.2 }

/-- A command completes; either it leaves the record and the flags (`BLK.RUN` sets `BUSY`), or it does nothing but record one error with its
own word. No step of the machine stops it (60_exceptions.md R252, R254). -/
def Obligations.CommandErrorsPrecise : Prop :=
  (∀ (i : Instr) (s : State), ∃ t, exec i s = .next t ∧
    ((t.errcode = s.errcode ∧ t.errinfo = s.errinfo ∧ t.errval = s.errval ∧
        t.status = (if i = .blkRun then s.status ||| 0x01#32 else s.status)) ∨
      ∃ c v, t = recordError c (encode i) v s)) ∧
  ∀ s : State, ∃ t, step s = .next t

/-- An access to an unmapped address or a write to a read-only one changes nothing but the flag and the record; an unmapped read returns 0
(60_exceptions.md R258, 20_memory.md R68). -/
def Obligations.BusErrorsChangeOnlyTheRecord : Prop :=
  ∀ (s : State) (a : Addr) (v : Word64) (rest : List HostMove), s.busy = false →
    (s.port = .write a v :: rest → locOf s.conf a = none → step s = .next { s with
      port := rest
      errcode := 0x03#32
      errinfo := a.setWidth 32
      errval := F64.posZero
      status := s.status ||| 0x08#32 }) ∧
    (s.port = .read a :: rest → locOf s.conf a = none → step s = .next { s with
      port := rest
      rdata := 0#64
      errcode := 0x03#32
      errinfo := a.setWidth 32
      errval := F64.posZero
      status := s.status ||| 0x08#32 }) ∧
    (∀ l, s.port = .write a v :: rest → locOf s.conf a = some l → l.access = .ro → step s = .next { s with
      port := rest
      errcode := 0x04#32
      errinfo := a.setWidth 32
      errval := F64.posZero
      status := s.status ||| 0x08#32 })

/-! ## The host port -/

/-- Which addresses are mapped, and who may write them (20_memory.md R60, 10_state.md R51). -/
def Obligations.AddressMap : Prop :=
  ∀ (c : Config) (a : Addr), c.wellFormed = true →
    let n := a.toNat
    let within : Nat → Nat → Prop := fun lo hi => lo ≤ n ∧ n ≤ hi
    ((locOf c a).isSome = true ↔
      within 0x00000 0x0000D ∨ within 0x00010 0x00015 ∨ within 0x00020 0x00028 ∨ within 0x00030 0x00038 ∨
      within 0x00040 0x00042 ∨ n = 0x00044 ∨ within 0x00048 0x00049 ∨ n = 0x0004C ∨ within 0x00050 0x00051 ∨
      within 0x00054 0x0005F ∨ within 0x00060 0x00064 ∨ within 0x00068 0x0006F ∨ within 0x00070 0x00071 ∨
      within 0x00080 0x0008B ∨ within 0x00090 0x0009B ∨ within 0x000A0 0x000A6 ∨ within 0x000B0 0x000B3 ∨
      within 0x01000 (0x01000 + c.harmMax - 1) ∨ within 0x02000 (0x02000 + c.harmMax - 1) ∨
      within 0x03000 (0x03000 + c.harmMax - 1) ∨ within 0x10000 (0x10000 + c.obufDepth - 1) ∨
      within 0x20000 (0x20000 + c.delayMax - 1) ∨ within 0x30000 (0x30000 + 2 ^ c.lutBits / 4)) ∧
    ∀ l, locOf c a = some l →
      (l.access = .wo ↔ n = 0x00006) ∧ (l.access = .w1c ↔ n = 0x00001) ∧
      (l.access = .rw ↔ n = 0x00002 ∨ within 0x00008 0x0000C ∨ within 0x00010 0x00015 ∨ within 0x00020 0x00028)

/-- A host read of a register returns it, zero-extended where it has 32 bits, with no side effect: the address of every register
(20_memory.md R62, R63, R67; 10_state.md R21 to R46). -/
def Obligations.HostReadsRegisters : Prop :=
  ∀ (s : State) (rest : List HostMove), s.busy = false →
    let ext : Word32 → Word64 := fun w => w.setWidth 64
    let sec : BwSection → List Word64 := fun b =>
      [b.coefs.a0, b.coefs.a1, b.coefs.a2, b.coefs.b1, b.coefs.b2, b.x1, b.x2, b.y1, b.y2, ext b.coefs.n, b.coefs.wc, ext b.coefs.hp]
    let leg : RcLeg → List Word64 := fun l => [l.dt, l.rc, l.alpha, l.last]
    let blocks : List (Nat × List Word64) :=
      [(0x00000, [0x44534307#64, ext (s.status &&& 0x3F#32), ext (s.ien &&& 0x3E#32), ext s.errcode, ext s.errinfo, s.errval,
          0#64, ext ((s.cfgvalid &&& 0x7FF#32) ||| 0x1A#32), s.srate, s.basehz, ext s.blklen, ext (s.blkctl &&& 1#32), s.x, s.y]),
       (0x00010, s.arg.toList), (0x00020, s.p.toList), (0x00030, s.ps.toList),
       (0x00040, [s.sine.freq, s.sine.inc, s.sine.phase]), (0x00044, [s.noiseIdx]), (0x00048, [s.lp1.k, s.lp1.mem]),
       (0x0004C, [s.dcr.mem]), (0x00050, [s.iir3.y1, s.iir3.y2]), (0x00054, leg s.rclp), (0x00058, leg s.rcbp.hp),
       (0x0005C, leg s.rcbp.lp), (0x00060, [s.moog.f, s.moog.af, s.moog.sqf, s.moog.fb, s.moog.res]),
       (0x00068, [s.moog.st1.prevIn, s.moog.st2.prevIn, s.moog.st3.prevIn, s.moog.st4.prevIn]),
       (0x0006C, [s.moog.st1.prevOut, s.moog.st2.prevOut, s.moog.st3.prevOut, s.moog.st4.prevOut]),
       (0x00070, [ext s.bw.mode, s.bw.gain]), (0x00080, sec s.bw.s0), (0x00090, sec s.bw.s1),
       (0x000A0, [ext s.harm.count, s.harm.basef, s.harm.offset, s.harm.center, s.harm.width, s.harm.master, s.harm.finc]),
       (0x000B0, [ext s.delay.n, s.delay.fb, ext (BitVec.ofNat 32 s.delay.fifo.length), s.delay.cell])]
    ∀ b ∈ blocks, ∀ (k : Nat) (v : Word64), b.2[k]? = some v → s.port = .read (BitVec.ofNat 18 (b.1 + k)) :: rest →
      step s = .next { s with port := rest, rdata := v }

/-- A host read of an array window: phases, amplitudes, increments, the output buffer, the delay history oldest first with `+0` past its
end, and the sine ROM (20_memory.md R60, 10_state.md R45, R46, R48). -/
def Obligations.HostReadsArrays : Prop :=
  ∀ (s : State) (rest : List HostMove) (k : Nat), Inv s → s.busy = false →
    let reads : Nat → Word64 → Prop := fun base v =>
      s.port = .read (BitVec.ofNat 18 (base + k)) :: rest → step s = .next { s with port := rest, rdata := v }
    (k < s.conf.harmMax → reads 0x01000 (s.mem.read (0x01000 + k)) ∧ reads 0x02000 (s.mem.read (0x02000 + k)) ∧
      reads 0x03000 (s.mem.read (0x03000 + k))) ∧
    (k < s.conf.obufDepth → reads 0x10000 (s.mem.read (0x10000 + k))) ∧
    (k < s.conf.delayMax → reads 0x20000 ((s.delay.fifo[k]?).getD 0#64)) ∧
    (k ≤ 2 ^ s.conf.lutBits / 4 → reads 0x30000 (sinq s.conf.lutBits k))

/-- A host write to a read-write register: the value stored, the writable bits only, and the refused values of `SRATE`, `BASEHZ` and
`BLKLEN` (10_state.md R21, R24, R26, R30 to R33; 20_memory.md R62, R63). -/
def Obligations.HostWritesRegisters : Prop :=
  ∀ (s : State) (v : Word64) (rest : List HostMove), s.busy = false →
    let low : Word32 := v.setWidth 32
    let good := F64.lt F64.posZero v && F64.isFinite v
    let refused : Word32 → Num64 → State := fun a val =>
      { s with port := rest, errcode := 0x05#32, errinfo := a, errval := val, status := s.status ||| 0x08#32 }
    (∀ i : Fin 6, s.port = .write (BitVec.ofNat 18 (0x00010 + i)) v :: rest →
      step s = .next { s with port := rest, arg := s.arg.set i v }) ∧
    (∀ i : Fin 9, s.port = .write (BitVec.ofNat 18 (0x00020 + i)) v :: rest →
      step s = .next { s with port := rest, p := s.p.set i v }) ∧
    (s.port = .write 0x0000C#18 v :: rest → step s = .next { s with port := rest, x := v }) ∧
    (s.port = .write 0x00002#18 v :: rest → step s = .next { s with port := rest, ien := low &&& 0x3E#32 }) ∧
    (s.port = .write 0x0000B#18 v :: rest → step s = .next { s with port := rest, blkctl := low &&& 0x01#32 }) ∧
    (s.port = .write 0x00008#18 v :: rest → good = true → step s = .next { s with port := rest, srate := v }) ∧
    (s.port = .write 0x00008#18 v :: rest → good = false → step s = .next (refused 0x00008#32 v)) ∧
    (s.port = .write 0x00009#18 v :: rest → good = true → step s = .next { s with port := rest, basehz := v }) ∧
    (s.port = .write 0x00009#18 v :: rest → good = false → step s = .next (refused 0x00009#32 v)) ∧
    (s.port = .write 0x0000A#18 v :: rest → low ≠ 0#32 → low.toNat ≤ s.conf.obufDepth →
      step s = .next { s with port := rest, blklen := low }) ∧
    (s.port = .write 0x0000A#18 v :: rest → (low = 0#32 ∨ s.conf.obufDepth < low.toNat) →
      step s = .next (refused 0x0000A#32 F64.posZero))

/-- A write of `v` to `STATUS` clears exactly the W1C flags whose bit in `v` is 1 and changes nothing else; the interrupt line is high
exactly when one of the five W1C flags is set and enabled (10_state.md R23; 60_exceptions.md R255, R260). -/
def Obligations.StatusAcknowledgeAndInterrupt : Prop :=
  (∀ (s : State) (v : Word64) (rest : List HostMove), s.busy = false → s.port = .write 0x00001#18 v :: rest →
    ∃ w : Word32, step s = .next { s with port := rest, status := w } ∧
      ∀ k < 32, w.getLsbD k = (s.status.getLsbD k && !(decide (1 ≤ k ∧ k ≤ 5) && v.getLsbD k))) ∧
  ∀ s : State, s.irq = true ↔ ∃ k : Nat, 1 ≤ k ∧ k ≤ 5 ∧ s.status.getLsbD k = true ∧ s.ien.getLsbD k = true

/-- While a block runs: `STATUS` reads and accesses to `P` complete, every other access is held (20_memory.md R74). That an access which
completes takes the step before the core, and that a held one stays the host's next move while the core takes its sample step, is the
model's choice (notes/assumptions/6.md). -/
def Obligations.BusyGating : Prop :=
  ∀ (s : State) (m : HostMove) (rest : List HostMove), s.busy = true → s.port = m :: rest →
    (heldWhileBusy m = true → step s = .next (coreStep s) ∧ (coreStep s).port = s.port) ∧
    (m = .read 0x00001#18 → step s = .next { s with port := rest, rdata := (s.status &&& 0x3F#32).setWidth 64 }) ∧
    (∀ i : Fin 9, m = .read (BitVec.ofNat 18 (0x00020 + i)) → step s = .next { s with port := rest, rdata := s.p[i] }) ∧
    (∀ (i : Fin 9) (v : Word64), m = .write (BitVec.ofNat 18 (0x00020 + i)) v →
      step s = .next { s with port := rest, p := s.p.set i v })

/-! ## Reset -/

/-- What reset leaves, for every configuration record; the `rst_n` pin takes every state there, a running block abandoned
(10_state.md R50, 70_reset_and_hazards.md R280). That the pin is one host move and one step which keeps the configuration record is the
model's choice (notes/assumptions/8.md), and so is the 0 that the reset state holds as the data last read (notes/assumptions/7.md). -/
def Obligations.ResetValues : Prop :=
  (∀ (s : State) (rest : List HostMove), s.port = .reset :: rest →
    ∃ moves, step s = .next { resetState s.conf with port := moves }) ∧
  ∀ c : Config,
    let s := resetState c
    let z := F64.posZero
    s.conf = c ∧ s.status = 0 ∧ s.ien = 0 ∧ s.errcode = 0 ∧ s.errinfo = 0 ∧ s.blkctl = 0 ∧ s.errval = z ∧ s.x = z ∧ s.y = z ∧
    (∀ i : Fin 6, s.arg[i] = z) ∧ s.cfgvalid = 0x0000001A#32 ∧ s.srate = c.srateReset ∧ s.basehz = c.baseHzReset ∧
    s.blklen = BitVec.ofNat 32 c.blockLen ∧ (∀ i : Fin 9, s.p[i] = c.paramTable[i].dflt ∧ s.ps[i] = c.paramTable[i].dflt) ∧
    s.sine = ⟨z, z, z⟩ ∧ s.noiseIdx = 0 ∧ s.lp1 = ⟨z, z⟩ ∧ s.dcr = ⟨z⟩ ∧ s.iir3 = ⟨z, z⟩ ∧ s.rclp = ⟨z, z, z, z⟩ ∧
    s.rcbp = ⟨⟨z, z, z, z⟩, ⟨z, z, z, z⟩⟩ ∧ s.moog = ⟨z, z, z, z, z, ⟨z, z⟩, ⟨z, z⟩, ⟨z, z⟩, ⟨z, z⟩⟩ ∧
    s.bw = ⟨0, z, ⟨⟨z, z, z, z, z, 0, z, 0⟩, z, z, z, z⟩, ⟨⟨z, z, z, z, z, 0, z, 0⟩, z, z, z, z⟩⟩ ∧
    s.harm = ⟨1, z, z, z, z, z, z⟩ ∧ s.delay = ⟨0, z, [], z⟩ ∧ s.blk = ⟨0, 0, false⟩ ∧ (∀ a, s.mem.read a = z) ∧ s.irq = false

/-- The invariant holds of the reset state of every configuration record that meets the constraints of R7. -/
def Obligations.ResetMeetsInvariant : Prop :=
  ∀ c : Config, c.wellFormed = true → Inv (resetState c)

/-! ## Invariants of the whole machine -/

/-- Every step keeps the invariant: legal register bits, positive rates, the snapshot in its ranges, the ladder's frequency in `[0, PI]` with
its scalars never stale, the bank's count, the delay line's length and gain, the design orders, the canonical memory inside its
windows, the block index in range (10_state.md R23 to R46, 20_memory.md R71, 46_delay.md R216). -/
def Obligations.StepKeepsInvariant : Prop :=
  ∀ s t : State, Inv s → step s = .next t → Inv t

/-- Every step keeps the memory's canonical form, so memories that read alike are equal lists. The list form is the model's choice, not
the spec's (notes/assumptions/2.md). -/
def Obligations.StepKeepsCanonicalMemory : Prop :=
  (∀ s t : State, s.mem.wf = true → step s = .next t → t.mem.wf = true) ∧
  ∀ m n : Memory, m.wf = true → n.wf = true → (∀ a, m.read a = n.read a) → m = n

/-- `CFGVALID` bits are never cleared but by reset, and the only step that sets one is a `CMD` write of a `CFG` or of `BLK.RUN`: no other
command does, no other access and no sample step (10_state.md R34). -/
def Obligations.ConfigurationIsKept : Prop :=
  (∀ s t : State, (∀ rest, s.port ≠ .reset :: rest) → step s = .next t →
    s.cfgvalid &&& t.cfgvalid = s.cfgvalid ∧
    (t.cfgvalid ≠ s.cfgvalid → s.busy = false ∧ ∃ (v : Word64) (rest : List HostMove) (i : Instr),
      s.port = .write 0x00006#18 v :: rest ∧ encode i = v.setWidth 32 ∧ (i ∈ cfgCommands ∨ i = .blkRun))) ∧
  ∀ (i : Instr) (s t : State), i ∉ cfgCommands → i ≠ .blkRun → exec i s = .next t → t.cfgvalid = s.cfgvalid

/-- No command writes `X`, an `ARG`, a `P`, a control register or the output buffer; only `BLK.RUN` writes the snapshot, the block state or
`BUSY`; only a `PROC` writes `Y` (10_state.md R21, R28; 41_operator_contract_sys.md R121 to R123). -/
def Obligations.CommandsLeaveHostState : Prop :=
  ∀ (i : Instr) (s t : State), Inv s → exec i s = .next t →
    t.conf = s.conf ∧ t.x = s.x ∧ t.arg = s.arg ∧ t.p = s.p ∧ t.srate = s.srate ∧ t.basehz = s.basehz ∧ t.blklen = s.blklen ∧
    t.blkctl = s.blkctl ∧ t.ien = s.ien ∧ t.port = s.port ∧ t.rdata = s.rdata ∧
    (∀ a, 0x10000 ≤ a → t.mem.read a = s.mem.read a) ∧
    (i ≠ .blkRun → t.ps = s.ps ∧ t.blk = s.blk ∧ t.busy = s.busy) ∧
    (i ∈ cfgCommands ++ unitResets ++ [.blkRun, .sysNop, .sysRstAll] → t.y = s.y)

/-- A unit's registers are written only by its own commands, by a `DELAY.PROC` that names it, by `BLK.RUN` and by `SYS.RSTALL`
(10_state.md R51). -/
def Obligations.UnitsWrittenByOwnCommands : Prop :=
  ∀ (i : Instr) (s t : State), exec i s = .next t →
    (.sine ∉ writtenUnits i → t.sine = s.sine) ∧ (.noise ∉ writtenUnits i → t.noiseIdx = s.noiseIdx) ∧
    (.lp1 ∉ writtenUnits i → t.lp1 = s.lp1) ∧ (.dcr ∉ writtenUnits i → t.dcr = s.dcr) ∧
    (.iir3 ∉ writtenUnits i → t.iir3 = s.iir3) ∧ (.rclp ∉ writtenUnits i → t.rclp = s.rclp) ∧
    (.rcbp ∉ writtenUnits i → t.rcbp = s.rcbp) ∧ (.moog ∉ writtenUnits i → t.moog = s.moog) ∧
    (.bw ∉ writtenUnits i → t.bw = s.bw) ∧ (.harm ∉ writtenUnits i → t.harm = s.harm ∧ t.mem = s.mem) ∧
    (.delay ∉ writtenUnits i → t.delay = s.delay) ∧ (.blk ∉ writtenUnits i → t.ps = s.ps ∧ t.blk = s.blk)

/-- A `CFG` issued twice with the same operands leaves what it leaves issued once, accepted or refused
(41_operator_contract_sys.md R123). -/
def Obligations.ConfigureIdempotent : Prop :=
  ∀ (i : Instr) (s t : State), i ∈ cfgCommands → s.mem.wf = true → exec i s = .next t → exec i t = .next t

/-- A filter whose history is all zeros, with finite coefficients and a zero input, gives a zero and keeps its history all zeros
(41_operator_contract_sys.md R125). -/
def Obligations.FilterSilence : Prop :=
  ∀ (s : State) (sc : SideChain) (sat iny : Bool), Inv s → s.configured sc.unit = true → FilterSilent s sc →
    silent (if iny then s.y else s.x) →
      ∃ t, exec (filterProc sat iny sc) s = .next t ∧ silent t.y ∧ FilterSilent t sc

/-- The delay line's silence, with and without a side-chain and in the legacy mode (41_operator_contract_sys.md R125,
46_delay.md R218). -/
def Obligations.DelaySilence : Prop :=
  ∀ (s : State) (iny : Bool), Inv s → s.configured .delay = true → DelaySilent s → silent (if iny then s.y else s.x) →
    (∃ t, exec (.delayProc iny) s = .next t ∧ silent t.y ∧ DelaySilent t) ∧
    (∃ t, exec (.delayProcNt iny) s = .next t ∧ silent t.y ∧ DelaySilent t) ∧
    ∀ (sc : SideChain) (sat : Bool), s.configured sc.unit = true → FilterSilent s sc →
      ∃ t, exec (delayProcWith sat iny sc) s = .next t ∧ silent t.y ∧ DelaySilent t ∧ FilterSilent t sc

/-- A delay line of `N` samples without feedback returns `+0` for its first `N` calls and then its inputs, in order and exact
(46_delay.md R218; the inputs finite and not `-0`, which the total turns into `+0`). -/
def Obligations.DelayIsExact : Prop :=
  ∀ (s : State) (xs : List Num64), s.configured .delay = true → 1 ≤ s.delay.n.toNat → s.delay.fb = F64.posZero →
    s.delay.fifo = [] → (∀ x ∈ xs, F64.isFinite x = true ∧ x ≠ 0x8000000000000000#64) →
      feedDelay xs s = some ((List.replicate s.delay.n.toNat F64.posZero ++ xs).take xs.length)

/-! ## The running block -/

/-- The core's step while a block runs: one sample of the bank through the ladder, dithered with the next noise value, into the output
buffer; every other register as before; the last sample clears `BUSY` and sets `BLKDONE` (47_block.md R235, R236). -/
def Obligations.SampleStep : Prop :=
  ∀ s : State, Inv s → s.busy = true → s.port = [] →
    ∃ (t u v : State) (mem : Memory),
      exec .harmProc { s with cfgvalid := s.cfgvalid ||| 0x200#32 } = .next t ∧
      exec (.moogProc s.blk.sat false) { s with x := t.y, cfgvalid := s.cfgvalid ||| 0x080#32 } = .next u ∧
      exec .noiseProc s = .next v ∧
      step s = .next { s with
        moog := u.moog
        noiseIdx := v.noiseIdx
        mem := mem
        blk := { s.blk with idx := s.blk.idx + 1 }
        status := if s.blk.idx + 1 = s.blk.n then s.status &&& ~~~(0x01#32) ||| 0x10#32 else s.status } ∧
      mem.wf = true ∧ mem.read (0x10000 + s.blk.idx) = F64.add u.y (F64.mul s.conf.ditherAmp v.y) ∧
      ∀ a, a ≠ 0x10000 + s.blk.idx → mem.read a = t.mem.read a

/-- A block ends: `BUSY` stays 1 for the samples that remain but one, and after the last of them `BUSY` is 0 and `BLKDONE` is 1; a held access
stays the host's next move all that while and the step after takes it (47_block.md R236, 20_memory.md R74). That each step of the wait is
the core's sample step is the model's choice of interleaving (notes/assumptions/6.md). -/
def Obligations.BlockTerminates : Prop :=
  ∀ s : State, Inv s → s.busy = true → HostWaits s →
    (∀ k < s.blk.n - s.blk.idx, ∃ t, runSteps k s = .next t ∧ t.busy = true ∧ t.port = s.port) ∧
    ∃ t, runSteps (s.blk.n - s.blk.idx) s = .next t ∧ t.busy = false ∧ t.status.getLsbD 4 = true ∧
      t.blk.idx = s.blk.n ∧ t.port = s.port ∧
      ∀ m rest, s.port = m :: rest → ∃ v, step t = .next v ∧ v.port = rest

/-- When a block has ended, each buffer cell of the samples that remained holds the value its own sample step computed, and every other cell,
below `BLK_IDX` and from `BLK_N` up, is as before (47_block.md R236, 20_memory.md R64). That a waiting host's steps are the core's sample
steps is the model's choice of interleaving (notes/assumptions/6.md). -/
def Obligations.BlockFillsBufferInOrder : Prop :=
  ∀ s : State, Inv s → s.busy = true → HostWaits s →
    ∃ u, runSteps (s.blk.n - s.blk.idx) s = .next u ∧
      (∀ k < s.blk.n - s.blk.idx, ∃ t, runSteps k s = .next t ∧
        u.mem.read (0x10000 + s.blk.idx + k) = sampleValue (noise t.noiseIdx.toNat) t) ∧
      ∀ j, j < s.blk.idx ∨ s.blk.n ≤ j → u.mem.read (0x10000 + j) = s.mem.read (0x10000 + j)

/-- Whatever the host does while a block runs, short of reset, each step either leaves what the block computes from as it was or is exactly
the core's sample step (47_block.md R239, 20_memory.md R66). -/
def Obligations.HostCannotDisturbBlock : Prop :=
  ∀ s t : State, s.busy = true → (∀ rest, s.port ≠ .reset :: rest) → step s = .next t →
    coreView t = coreView s ∨ coreView t = coreView (coreStep (coreView s))

/-- Nothing depends on the pulse width: two states that differ only in `P[1]`, `PS[1]` (and in what was last read) step to two such states
(47_block.md R238). -/
def Obligations.PulseWidthUnread : Prop :=
  ∀ s t s' : State, SameButPulse s t → step s = .next s' → ∃ t', step t = .next t' ∧ SameButPulse s' t'

/-! ## Arithmetic -/

/-- The sum and the difference of finite numbers are the exact results rounded once, with the signs of zero of IEEE 754
(40_function_units.md R100, R101). -/
def Obligations.AddRoundsToNearest : Prop :=
  ∀ a b : Num64, F64.isFinite a = true → F64.isFinite b = true →
    F64.RoundsTo ((F64.value a : ℝ) + (F64.value b : ℝ)) (F64.add a b) ∧
    F64.RoundsTo ((F64.value a : ℝ) - (F64.value b : ℝ)) (F64.sub a b) ∧
    (F64.value a + F64.value b = 0 → F64.neg (F64.add a b) = (F64.neg a && F64.neg b)) ∧
    (F64.value a - F64.value b = 0 → F64.neg (F64.sub a b) = (F64.neg a && !F64.neg b))

/-- The product of finite numbers and their quotient by a nonzero one are the exact results rounded once, the sign of a zero result
being that of the operands together (40_function_units.md R100, R101). -/
def Obligations.MulDivRoundToNearest : Prop :=
  ∀ a b : Num64, F64.isFinite a = true → F64.isFinite b = true →
    F64.RoundsTo ((F64.value a : ℝ) * (F64.value b : ℝ)) (F64.mul a b) ∧
    F64.neg (F64.mul a b) = (F64.neg a != F64.neg b) ∧
    (F64.isZero b = false → F64.RoundsTo ((F64.value a : ℝ) / (F64.value b : ℝ)) (F64.div a b) ∧
      F64.neg (F64.div a b) = (F64.neg a != F64.neg b))

/-- The defaults of IEEE 754 for NaN, the infinities and zero divisors: every result of the four operations with an operand that is not
finite, and every quotient by a zero (40_function_units.md R101). -/
def Obligations.SpecialOperands : Prop :=
  ∀ a b : Num64,
    let nan : Num64 := 0x7FF8000000000000#64
    let inf : Bool → Num64 := fun n => if n then 0xFFF0000000000000#64 else 0x7FF0000000000000#64
    let sign := F64.neg a != F64.neg b
    (F64.isNaN a = true ∨ F64.isNaN b = true →
      F64.add a b = nan ∧ F64.sub a b = nan ∧ F64.mul a b = nan ∧ F64.div a b = nan) ∧
    (F64.isInf a = true → F64.isInf b = true →
      F64.add a b = (if F64.neg a = F64.neg b then inf (F64.neg a) else nan) ∧
      F64.sub a b = (if F64.neg a = F64.neg b then nan else inf (F64.neg a)) ∧
      F64.mul a b = inf sign ∧ F64.div a b = nan) ∧
    (F64.isInf a = true → F64.isFinite b = true →
      F64.add a b = inf (F64.neg a) ∧ F64.sub a b = inf (F64.neg a) ∧
      F64.mul a b = (if F64.isZero b then nan else inf sign) ∧ F64.div a b = inf sign) ∧
    (F64.isFinite a = true → F64.isInf b = true →
      F64.add a b = inf (F64.neg b) ∧ F64.sub a b = inf (!F64.neg b) ∧
      F64.mul a b = (if F64.isZero a then nan else inf sign) ∧
      F64.div a b = (if sign then 0x8000000000000000#64 else 0x0000000000000000#64)) ∧
    (F64.isFinite a = true → F64.isZero b = true →
      F64.div a b = (if F64.isZero a then nan else inf sign))

/-- The comparisons are those of the extended reals, false on NaN; `v != v` is true exactly for NaN (40_function_units.md R102). -/
def Obligations.ComparisonsAreExact : Prop :=
  ∀ a b : Num64,
    (F64.isNaN a = true ∨ F64.isNaN b = true → F64.lt a b = false ∧ F64.le a b = false ∧ F64.feq a b = false) ∧
    (F64.isNaN a = false → F64.isNaN b = false →
      (F64.lt a b = true ↔ F64.extValue a < F64.extValue b) ∧ (F64.le a b = true ↔ F64.extValue a ≤ F64.extValue b) ∧
      (F64.feq a b = true ↔ F64.extValue a = F64.extValue b)) ∧
    (F64.feq a a = false ↔ F64.isNaN a = true)

/-- The properties of `NUM` the filters rest on: products with a zero and sums of zeros are zeros, and rounding is monotone
(40_function_units.md R103). -/
def Obligations.ZeroAndMonotoneRounding : Prop :=
  ∀ a b c d : Num64, F64.isFinite a = true → F64.isFinite b = true → F64.isFinite c = true → F64.isFinite d = true →
    (F64.isZero b = true → F64.isZero (F64.mul a b) = true ∧ F64.isZero (F64.mul b a) = true) ∧
    (F64.isZero a = true → F64.isZero b = true → F64.isZero (F64.add a b) = true ∧ F64.isZero (F64.sub a b) = true) ∧
    (F64.value a + F64.value b ≤ F64.value c + F64.value d → F64.le (F64.add a b) (F64.add c d) = true) ∧
    (F64.value a * F64.value b ≤ F64.value c * F64.value d → F64.le (F64.mul a b) (F64.mul c d) = true) ∧
    (F64.isZero b = false → F64.isZero d = false → F64.value a / F64.value b ≤ F64.value c / F64.value d →
      F64.le (F64.div a b) (F64.div c d) = true)

/-- Integers up to `2^53` are exact, and so are their sums and products in that range; `FLOOR` is the greatest integer not above a finite
number, `CEIL` the least not below; a number that is not negative minus its floor is exact (40_function_units.md R103, R104). -/
def Obligations.IntegersAndFloorExact : Prop :=
  (∀ i j : Int, |i| ≤ 2 ^ 53 → |j| ≤ 2 ^ 53 →
    F64.isFinite (F64.ofInt i) = true ∧ F64.value (F64.ofInt i) = i ∧
    (|i + j| ≤ 2 ^ 53 → F64.value (F64.add (F64.ofInt i) (F64.ofInt j)) = i + j) ∧
    (|i * j| ≤ 2 ^ 53 → F64.value (F64.mul (F64.ofInt i) (F64.ofInt j)) = i * j)) ∧
  (∀ n : Nat, F64.ofNat n = F64.ofInt n ∧ (n ≤ 2 ^ 53 → F64.isFinite (F64.ofNat n) = true ∧ F64.value (F64.ofNat n) = n)) ∧
  ∀ v : Num64, F64.isFinite v = true →
    (F64.floor v : ℚ) ≤ F64.value v ∧ F64.value v < F64.floor v + 1 ∧
    F64.value v ≤ F64.ceil v ∧ (F64.ceil v : ℚ) < F64.value v + 1 ∧
    (0 ≤ F64.value v → F64.value (F64.sub v (F64.ofInt (F64.floor v))) = F64.value v - F64.floor v)

/-- `EXP2` is the correctly rounded power of two (40_function_units.md R105). -/
def Obligations.Exp2RoundsToNearest : Prop :=
  (∀ v : Num64, F64.isNaN v = true → F64.exp2 v = 0x7FF8000000000000#64) ∧ F64.exp2 F64.posInf = F64.posInf ∧ F64.exp2 F64.negInf = F64.posZero ∧
  ∀ v : Num64, F64.isFinite v = true → F64.RoundsTo ((2 : ℝ) ^ (F64.value v : ℝ)) (F64.exp2 v)

/-- `LOG2` is the correctly rounded binary logarithm, with the special values of the rule (40_function_units.md R106). -/
def Obligations.Log2RoundsToNearest : Prop :=
  ∀ v : Num64,
    (F64.isZero v = true → F64.log2 v = F64.negInf) ∧
    (F64.isNaN v = true ∨ F64.lt v F64.posZero = true → F64.log2 v = 0x7FF8000000000000#64) ∧
    F64.log2 F64.posInf = F64.posInf ∧
    (F64.isFinite v = true → F64.lt F64.posZero v = true → F64.RoundsTo (Real.logb 2 (F64.value v : ℝ)) (F64.log2 v))

/-- The sine unit: linear interpolation between the two table samples next to the fractional phase, NaN for a phase that is not finite, the
cosine a quarter turn ahead, the pre-warp their quotient; the full wave from the quarter table; and at the reference table size `+0` at every
whole number of turns, exact at the quadrants, never outside `[-1, 1]` (40_function_units.md R107, R108, R111, R112, R113). -/
def Obligations.SineUnit : Prop :=
  (∀ (lutBits : Nat) (p : Num64), F64.isFinite p = true →
    let t := F64.sub p (F64.ofInt (F64.floor p))
    let s := F64.mul t (F64.ofNat (2 ^ lutBits))
    let i : Int := F64.floor s
    let phi := F64.sub s (F64.ofInt i)
    let v0 := wave lutBits (i % 2 ^ lutBits).toNat
    let v1 := wave lutBits ((i + 1) % 2 ^ lutBits).toNat
    sin2pi lutBits p = F64.add v0 (F64.mul phi (F64.sub v1 v0))) ∧
  (∀ (lutBits : Nat) (p : Num64), F64.isFinite p = false → sin2pi lutBits p = 0x7FF8000000000000#64) ∧
  (∀ (lutBits : Nat) (p : Num64), cos2pi lutBits p = sin2pi lutBits (F64.add p 0x3FD0000000000000#64)) ∧
  (∀ (lutBits : Nat) (srate f : Num64),
    let x := F64.div (F64.div f srate) 0x4000000000000000#64
    tanw lutBits srate f = F64.div (sin2pi lutBits x) (cos2pi lutBits x)) ∧
  (∀ lutBits i : Nat, 2 ≤ lutBits →
    let q := 2 ^ lutBits / 4
    (i < q → wave lutBits i = sinq lutBits i ∧ wave lutBits (q + i) = sinq lutBits (q - i)) ∧
    (i < 2 * q → wave lutBits (i + 2 * q) = F64.sub F64.posZero (wave lutBits i))) ∧
  (∀ p : Num64, F64.isFinite p = true → F64.value p = F64.floor p → sin2pi 10 p = F64.posZero) ∧
  sin2pi 10 0x3FD0000000000000#64 = F64.one ∧ sin2pi 10 0x3FE0000000000000#64 = F64.posZero ∧
  sin2pi 10 0x3FE8000000000000#64 = F64.negOne ∧
  ∀ p : Num64, F64.isFinite p = true →
    F64.le F64.negOne (sin2pi 10 p) = true ∧ F64.le (sin2pi 10 p) F64.one = true

/-- The sine ROM at every table size a configuration may have: `SINQ[0]` is `+0`, the last entry is 1, and every entry is the number nearest
the real sine of its angle (10_state.md R48, 40_function_units.md R110). -/
def Obligations.SineRom : Prop :=
  ∀ lutBits : Nat, 4 ≤ lutBits →
    sinq lutBits 0 = F64.posZero ∧ sinq lutBits (2 ^ lutBits / 4) = 0x3FF0000000000000#64 ∧
    ∀ q : Nat, q ≤ 2 ^ lutBits / 4 → F64.RoundsTo (Real.sin (2 * Real.pi * (q : ℝ) / 2 ^ lutBits)) (sinq lutBits q)
end

