-- ==== Sys2Proof/Laws/State.lean ====
section
/-! SUPPORT. One lemma per field per named update of `State`, each true by `rfl`, so that no proof unfolds an update. -/

namespace Sys2Proof.Machine

section writeYFields
variable (s : State) (v : Num64)

@[simp] theorem writeY_conf : (s.writeY v).conf = s.conf := rfl
@[simp] theorem writeY_status : (s.writeY v).status = s.status := rfl
@[simp] theorem writeY_ien : (s.writeY v).ien = s.ien := rfl
@[simp] theorem writeY_errcode : (s.writeY v).errcode = s.errcode := rfl
@[simp] theorem writeY_errinfo : (s.writeY v).errinfo = s.errinfo := rfl
@[simp] theorem writeY_errval : (s.writeY v).errval = s.errval := rfl
@[simp] theorem writeY_cfgvalid : (s.writeY v).cfgvalid = s.cfgvalid := rfl
@[simp] theorem writeY_srate : (s.writeY v).srate = s.srate := rfl
@[simp] theorem writeY_basehz : (s.writeY v).basehz = s.basehz := rfl
@[simp] theorem writeY_blklen : (s.writeY v).blklen = s.blklen := rfl
@[simp] theorem writeY_blkctl : (s.writeY v).blkctl = s.blkctl := rfl
@[simp] theorem writeY_x : (s.writeY v).x = s.x := rfl
@[simp] theorem writeY_y : (s.writeY v).y = v := rfl
@[simp] theorem writeY_arg : (s.writeY v).arg = s.arg := rfl
@[simp] theorem writeY_p : (s.writeY v).p = s.p := rfl
@[simp] theorem writeY_ps : (s.writeY v).ps = s.ps := rfl
@[simp] theorem writeY_sine : (s.writeY v).sine = s.sine := rfl
@[simp] theorem writeY_noiseIdx : (s.writeY v).noiseIdx = s.noiseIdx := rfl
@[simp] theorem writeY_lp1 : (s.writeY v).lp1 = s.lp1 := rfl
@[simp] theorem writeY_dcr : (s.writeY v).dcr = s.dcr := rfl
@[simp] theorem writeY_iir3 : (s.writeY v).iir3 = s.iir3 := rfl
@[simp] theorem writeY_rclp : (s.writeY v).rclp = s.rclp := rfl
@[simp] theorem writeY_rcbp : (s.writeY v).rcbp = s.rcbp := rfl
@[simp] theorem writeY_moog : (s.writeY v).moog = s.moog := rfl
@[simp] theorem writeY_bw : (s.writeY v).bw = s.bw := rfl
@[simp] theorem writeY_harm : (s.writeY v).harm = s.harm := rfl
@[simp] theorem writeY_delay : (s.writeY v).delay = s.delay := rfl
@[simp] theorem writeY_blk : (s.writeY v).blk = s.blk := rfl
@[simp] theorem writeY_mem : (s.writeY v).mem = s.mem := rfl
@[simp] theorem writeY_port : (s.writeY v).port = s.port := rfl
@[simp] theorem writeY_rdata : (s.writeY v).rdata = s.rdata := rfl

end writeYFields

section markConfiguredFields
variable (s : State) (u : DspUnit)

@[simp] theorem markConfigured_conf : (s.markConfigured u).conf = s.conf := rfl
@[simp] theorem markConfigured_status : (s.markConfigured u).status = s.status := rfl
@[simp] theorem markConfigured_ien : (s.markConfigured u).ien = s.ien := rfl
@[simp] theorem markConfigured_errcode : (s.markConfigured u).errcode = s.errcode := rfl
@[simp] theorem markConfigured_errinfo : (s.markConfigured u).errinfo = s.errinfo := rfl
@[simp] theorem markConfigured_errval : (s.markConfigured u).errval = s.errval := rfl
@[simp] theorem markConfigured_cfgvalid : (s.markConfigured u).cfgvalid = s.cfgvalid ||| 1#32 <<< u.code.toNat := rfl
@[simp] theorem markConfigured_srate : (s.markConfigured u).srate = s.srate := rfl
@[simp] theorem markConfigured_basehz : (s.markConfigured u).basehz = s.basehz := rfl
@[simp] theorem markConfigured_blklen : (s.markConfigured u).blklen = s.blklen := rfl
@[simp] theorem markConfigured_blkctl : (s.markConfigured u).blkctl = s.blkctl := rfl
@[simp] theorem markConfigured_x : (s.markConfigured u).x = s.x := rfl
@[simp] theorem markConfigured_y : (s.markConfigured u).y = s.y := rfl
@[simp] theorem markConfigured_arg : (s.markConfigured u).arg = s.arg := rfl
@[simp] theorem markConfigured_p : (s.markConfigured u).p = s.p := rfl
@[simp] theorem markConfigured_ps : (s.markConfigured u).ps = s.ps := rfl
@[simp] theorem markConfigured_sine : (s.markConfigured u).sine = s.sine := rfl
@[simp] theorem markConfigured_noiseIdx : (s.markConfigured u).noiseIdx = s.noiseIdx := rfl
@[simp] theorem markConfigured_lp1 : (s.markConfigured u).lp1 = s.lp1 := rfl
@[simp] theorem markConfigured_dcr : (s.markConfigured u).dcr = s.dcr := rfl
@[simp] theorem markConfigured_iir3 : (s.markConfigured u).iir3 = s.iir3 := rfl
@[simp] theorem markConfigured_rclp : (s.markConfigured u).rclp = s.rclp := rfl
@[simp] theorem markConfigured_rcbp : (s.markConfigured u).rcbp = s.rcbp := rfl
@[simp] theorem markConfigured_moog : (s.markConfigured u).moog = s.moog := rfl
@[simp] theorem markConfigured_bw : (s.markConfigured u).bw = s.bw := rfl
@[simp] theorem markConfigured_harm : (s.markConfigured u).harm = s.harm := rfl
@[simp] theorem markConfigured_delay : (s.markConfigured u).delay = s.delay := rfl
@[simp] theorem markConfigured_blk : (s.markConfigured u).blk = s.blk := rfl
@[simp] theorem markConfigured_mem : (s.markConfigured u).mem = s.mem := rfl
@[simp] theorem markConfigured_port : (s.markConfigured u).port = s.port := rfl
@[simp] theorem markConfigured_rdata : (s.markConfigured u).rdata = s.rdata := rfl

end markConfiguredFields

section withMemFields
variable (s : State) (m : Memory)

@[simp] theorem withMem_conf : (s.withMem m).conf = s.conf := rfl
@[simp] theorem withMem_status : (s.withMem m).status = s.status := rfl
@[simp] theorem withMem_ien : (s.withMem m).ien = s.ien := rfl
@[simp] theorem withMem_errcode : (s.withMem m).errcode = s.errcode := rfl
@[simp] theorem withMem_errinfo : (s.withMem m).errinfo = s.errinfo := rfl
@[simp] theorem withMem_errval : (s.withMem m).errval = s.errval := rfl
@[simp] theorem withMem_cfgvalid : (s.withMem m).cfgvalid = s.cfgvalid := rfl
@[simp] theorem withMem_srate : (s.withMem m).srate = s.srate := rfl
@[simp] theorem withMem_basehz : (s.withMem m).basehz = s.basehz := rfl
@[simp] theorem withMem_blklen : (s.withMem m).blklen = s.blklen := rfl
@[simp] theorem withMem_blkctl : (s.withMem m).blkctl = s.blkctl := rfl
@[simp] theorem withMem_x : (s.withMem m).x = s.x := rfl
@[simp] theorem withMem_y : (s.withMem m).y = s.y := rfl
@[simp] theorem withMem_arg : (s.withMem m).arg = s.arg := rfl
@[simp] theorem withMem_p : (s.withMem m).p = s.p := rfl
@[simp] theorem withMem_ps : (s.withMem m).ps = s.ps := rfl
@[simp] theorem withMem_sine : (s.withMem m).sine = s.sine := rfl
@[simp] theorem withMem_noiseIdx : (s.withMem m).noiseIdx = s.noiseIdx := rfl
@[simp] theorem withMem_lp1 : (s.withMem m).lp1 = s.lp1 := rfl
@[simp] theorem withMem_dcr : (s.withMem m).dcr = s.dcr := rfl
@[simp] theorem withMem_iir3 : (s.withMem m).iir3 = s.iir3 := rfl
@[simp] theorem withMem_rclp : (s.withMem m).rclp = s.rclp := rfl
@[simp] theorem withMem_rcbp : (s.withMem m).rcbp = s.rcbp := rfl
@[simp] theorem withMem_moog : (s.withMem m).moog = s.moog := rfl
@[simp] theorem withMem_bw : (s.withMem m).bw = s.bw := rfl
@[simp] theorem withMem_harm : (s.withMem m).harm = s.harm := rfl
@[simp] theorem withMem_delay : (s.withMem m).delay = s.delay := rfl
@[simp] theorem withMem_blk : (s.withMem m).blk = s.blk := rfl
@[simp] theorem withMem_mem : (s.withMem m).mem = m := rfl
@[simp] theorem withMem_port : (s.withMem m).port = s.port := rfl
@[simp] theorem withMem_rdata : (s.withMem m).rdata = s.rdata := rfl

end withMemFields

section withPortFields
variable (s : State) (q : List HostMove)

@[simp] theorem withPort_conf : (s.withPort q).conf = s.conf := rfl
@[simp] theorem withPort_status : (s.withPort q).status = s.status := rfl
@[simp] theorem withPort_ien : (s.withPort q).ien = s.ien := rfl
@[simp] theorem withPort_errcode : (s.withPort q).errcode = s.errcode := rfl
@[simp] theorem withPort_errinfo : (s.withPort q).errinfo = s.errinfo := rfl
@[simp] theorem withPort_errval : (s.withPort q).errval = s.errval := rfl
@[simp] theorem withPort_cfgvalid : (s.withPort q).cfgvalid = s.cfgvalid := rfl
@[simp] theorem withPort_srate : (s.withPort q).srate = s.srate := rfl
@[simp] theorem withPort_basehz : (s.withPort q).basehz = s.basehz := rfl
@[simp] theorem withPort_blklen : (s.withPort q).blklen = s.blklen := rfl
@[simp] theorem withPort_blkctl : (s.withPort q).blkctl = s.blkctl := rfl
@[simp] theorem withPort_x : (s.withPort q).x = s.x := rfl
@[simp] theorem withPort_y : (s.withPort q).y = s.y := rfl
@[simp] theorem withPort_arg : (s.withPort q).arg = s.arg := rfl
@[simp] theorem withPort_p : (s.withPort q).p = s.p := rfl
@[simp] theorem withPort_ps : (s.withPort q).ps = s.ps := rfl
@[simp] theorem withPort_sine : (s.withPort q).sine = s.sine := rfl
@[simp] theorem withPort_noiseIdx : (s.withPort q).noiseIdx = s.noiseIdx := rfl
@[simp] theorem withPort_lp1 : (s.withPort q).lp1 = s.lp1 := rfl
@[simp] theorem withPort_dcr : (s.withPort q).dcr = s.dcr := rfl
@[simp] theorem withPort_iir3 : (s.withPort q).iir3 = s.iir3 := rfl
@[simp] theorem withPort_rclp : (s.withPort q).rclp = s.rclp := rfl
@[simp] theorem withPort_rcbp : (s.withPort q).rcbp = s.rcbp := rfl
@[simp] theorem withPort_moog : (s.withPort q).moog = s.moog := rfl
@[simp] theorem withPort_bw : (s.withPort q).bw = s.bw := rfl
@[simp] theorem withPort_harm : (s.withPort q).harm = s.harm := rfl
@[simp] theorem withPort_delay : (s.withPort q).delay = s.delay := rfl
@[simp] theorem withPort_blk : (s.withPort q).blk = s.blk := rfl
@[simp] theorem withPort_mem : (s.withPort q).mem = s.mem := rfl
@[simp] theorem withPort_port : (s.withPort q).port = q := rfl
@[simp] theorem withPort_rdata : (s.withPort q).rdata = s.rdata := rfl

end withPortFields

section withRdataFields
variable (s : State) (v : Word64)

@[simp] theorem withRdata_conf : (s.withRdata v).conf = s.conf := rfl
@[simp] theorem withRdata_status : (s.withRdata v).status = s.status := rfl
@[simp] theorem withRdata_ien : (s.withRdata v).ien = s.ien := rfl
@[simp] theorem withRdata_errcode : (s.withRdata v).errcode = s.errcode := rfl
@[simp] theorem withRdata_errinfo : (s.withRdata v).errinfo = s.errinfo := rfl
@[simp] theorem withRdata_errval : (s.withRdata v).errval = s.errval := rfl
@[simp] theorem withRdata_cfgvalid : (s.withRdata v).cfgvalid = s.cfgvalid := rfl
@[simp] theorem withRdata_srate : (s.withRdata v).srate = s.srate := rfl
@[simp] theorem withRdata_basehz : (s.withRdata v).basehz = s.basehz := rfl
@[simp] theorem withRdata_blklen : (s.withRdata v).blklen = s.blklen := rfl
@[simp] theorem withRdata_blkctl : (s.withRdata v).blkctl = s.blkctl := rfl
@[simp] theorem withRdata_x : (s.withRdata v).x = s.x := rfl
@[simp] theorem withRdata_y : (s.withRdata v).y = s.y := rfl
@[simp] theorem withRdata_arg : (s.withRdata v).arg = s.arg := rfl
@[simp] theorem withRdata_p : (s.withRdata v).p = s.p := rfl
@[simp] theorem withRdata_ps : (s.withRdata v).ps = s.ps := rfl
@[simp] theorem withRdata_sine : (s.withRdata v).sine = s.sine := rfl
@[simp] theorem withRdata_noiseIdx : (s.withRdata v).noiseIdx = s.noiseIdx := rfl
@[simp] theorem withRdata_lp1 : (s.withRdata v).lp1 = s.lp1 := rfl
@[simp] theorem withRdata_dcr : (s.withRdata v).dcr = s.dcr := rfl
@[simp] theorem withRdata_iir3 : (s.withRdata v).iir3 = s.iir3 := rfl
@[simp] theorem withRdata_rclp : (s.withRdata v).rclp = s.rclp := rfl
@[simp] theorem withRdata_rcbp : (s.withRdata v).rcbp = s.rcbp := rfl
@[simp] theorem withRdata_moog : (s.withRdata v).moog = s.moog := rfl
@[simp] theorem withRdata_bw : (s.withRdata v).bw = s.bw := rfl
@[simp] theorem withRdata_harm : (s.withRdata v).harm = s.harm := rfl
@[simp] theorem withRdata_delay : (s.withRdata v).delay = s.delay := rfl
@[simp] theorem withRdata_blk : (s.withRdata v).blk = s.blk := rfl
@[simp] theorem withRdata_mem : (s.withRdata v).mem = s.mem := rfl
@[simp] theorem withRdata_port : (s.withRdata v).port = s.port := rfl
@[simp] theorem withRdata_rdata : (s.withRdata v).rdata = v := rfl

end withRdataFields

section recordErrorFields
variable (s : State) (c : ErrCause) (w : Word32) (v : Num64)

@[simp] theorem recordError_conf : (recordError c w v s).conf = s.conf := rfl
@[simp] theorem recordError_status : (recordError c w v s).status = setFlag s.status c.flag := rfl
@[simp] theorem recordError_ien : (recordError c w v s).ien = s.ien := rfl
@[simp] theorem recordError_errcode : (recordError c w v s).errcode = c.code.setWidth 32 := rfl
@[simp] theorem recordError_errinfo : (recordError c w v s).errinfo = w := rfl
@[simp] theorem recordError_errval : (recordError c w v s).errval = v := rfl
@[simp] theorem recordError_cfgvalid : (recordError c w v s).cfgvalid = s.cfgvalid := rfl
@[simp] theorem recordError_srate : (recordError c w v s).srate = s.srate := rfl
@[simp] theorem recordError_basehz : (recordError c w v s).basehz = s.basehz := rfl
@[simp] theorem recordError_blklen : (recordError c w v s).blklen = s.blklen := rfl
@[simp] theorem recordError_blkctl : (recordError c w v s).blkctl = s.blkctl := rfl
@[simp] theorem recordError_x : (recordError c w v s).x = s.x := rfl
@[simp] theorem recordError_y : (recordError c w v s).y = s.y := rfl
@[simp] theorem recordError_arg : (recordError c w v s).arg = s.arg := rfl
@[simp] theorem recordError_p : (recordError c w v s).p = s.p := rfl
@[simp] theorem recordError_ps : (recordError c w v s).ps = s.ps := rfl
@[simp] theorem recordError_sine : (recordError c w v s).sine = s.sine := rfl
@[simp] theorem recordError_noiseIdx : (recordError c w v s).noiseIdx = s.noiseIdx := rfl
@[simp] theorem recordError_lp1 : (recordError c w v s).lp1 = s.lp1 := rfl
@[simp] theorem recordError_dcr : (recordError c w v s).dcr = s.dcr := rfl
@[simp] theorem recordError_iir3 : (recordError c w v s).iir3 = s.iir3 := rfl
@[simp] theorem recordError_rclp : (recordError c w v s).rclp = s.rclp := rfl
@[simp] theorem recordError_rcbp : (recordError c w v s).rcbp = s.rcbp := rfl
@[simp] theorem recordError_moog : (recordError c w v s).moog = s.moog := rfl
@[simp] theorem recordError_bw : (recordError c w v s).bw = s.bw := rfl
@[simp] theorem recordError_harm : (recordError c w v s).harm = s.harm := rfl
@[simp] theorem recordError_delay : (recordError c w v s).delay = s.delay := rfl
@[simp] theorem recordError_blk : (recordError c w v s).blk = s.blk := rfl
@[simp] theorem recordError_mem : (recordError c w v s).mem = s.mem := rfl
@[simp] theorem recordError_port : (recordError c w v s).port = s.port := rfl
@[simp] theorem recordError_rdata : (recordError c w v s).rdata = s.rdata := rfl

end recordErrorFields

section acknowledgeFields
variable (s : State) (v : Word32)

@[simp] theorem acknowledge_conf : (acknowledge v s).conf = s.conf := rfl
@[simp] theorem acknowledge_status : (acknowledge v s).status = ackFlags s.status v := rfl
@[simp] theorem acknowledge_ien : (acknowledge v s).ien = s.ien := rfl
@[simp] theorem acknowledge_errcode : (acknowledge v s).errcode = s.errcode := rfl
@[simp] theorem acknowledge_errinfo : (acknowledge v s).errinfo = s.errinfo := rfl
@[simp] theorem acknowledge_errval : (acknowledge v s).errval = s.errval := rfl
@[simp] theorem acknowledge_cfgvalid : (acknowledge v s).cfgvalid = s.cfgvalid := rfl
@[simp] theorem acknowledge_srate : (acknowledge v s).srate = s.srate := rfl
@[simp] theorem acknowledge_basehz : (acknowledge v s).basehz = s.basehz := rfl
@[simp] theorem acknowledge_blklen : (acknowledge v s).blklen = s.blklen := rfl
@[simp] theorem acknowledge_blkctl : (acknowledge v s).blkctl = s.blkctl := rfl
@[simp] theorem acknowledge_x : (acknowledge v s).x = s.x := rfl
@[simp] theorem acknowledge_y : (acknowledge v s).y = s.y := rfl
@[simp] theorem acknowledge_arg : (acknowledge v s).arg = s.arg := rfl
@[simp] theorem acknowledge_p : (acknowledge v s).p = s.p := rfl
@[simp] theorem acknowledge_ps : (acknowledge v s).ps = s.ps := rfl
@[simp] theorem acknowledge_sine : (acknowledge v s).sine = s.sine := rfl
@[simp] theorem acknowledge_noiseIdx : (acknowledge v s).noiseIdx = s.noiseIdx := rfl
@[simp] theorem acknowledge_lp1 : (acknowledge v s).lp1 = s.lp1 := rfl
@[simp] theorem acknowledge_dcr : (acknowledge v s).dcr = s.dcr := rfl
@[simp] theorem acknowledge_iir3 : (acknowledge v s).iir3 = s.iir3 := rfl
@[simp] theorem acknowledge_rclp : (acknowledge v s).rclp = s.rclp := rfl
@[simp] theorem acknowledge_rcbp : (acknowledge v s).rcbp = s.rcbp := rfl
@[simp] theorem acknowledge_moog : (acknowledge v s).moog = s.moog := rfl
@[simp] theorem acknowledge_bw : (acknowledge v s).bw = s.bw := rfl
@[simp] theorem acknowledge_harm : (acknowledge v s).harm = s.harm := rfl
@[simp] theorem acknowledge_delay : (acknowledge v s).delay = s.delay := rfl
@[simp] theorem acknowledge_blk : (acknowledge v s).blk = s.blk := rfl
@[simp] theorem acknowledge_mem : (acknowledge v s).mem = s.mem := rfl
@[simp] theorem acknowledge_port : (acknowledge v s).port = s.port := rfl
@[simp] theorem acknowledge_rdata : (acknowledge v s).rdata = s.rdata := rfl

end acknowledgeFields

section advanceNoiseFields
variable (s : State)

@[simp] theorem advanceNoise_conf : (advanceNoise s).conf = s.conf := rfl
@[simp] theorem advanceNoise_status : (advanceNoise s).status = s.status := rfl
@[simp] theorem advanceNoise_ien : (advanceNoise s).ien = s.ien := rfl
@[simp] theorem advanceNoise_errcode : (advanceNoise s).errcode = s.errcode := rfl
@[simp] theorem advanceNoise_errinfo : (advanceNoise s).errinfo = s.errinfo := rfl
@[simp] theorem advanceNoise_errval : (advanceNoise s).errval = s.errval := rfl
@[simp] theorem advanceNoise_cfgvalid : (advanceNoise s).cfgvalid = s.cfgvalid := rfl
@[simp] theorem advanceNoise_srate : (advanceNoise s).srate = s.srate := rfl
@[simp] theorem advanceNoise_basehz : (advanceNoise s).basehz = s.basehz := rfl
@[simp] theorem advanceNoise_blklen : (advanceNoise s).blklen = s.blklen := rfl
@[simp] theorem advanceNoise_blkctl : (advanceNoise s).blkctl = s.blkctl := rfl
@[simp] theorem advanceNoise_x : (advanceNoise s).x = s.x := rfl
@[simp] theorem advanceNoise_y : (advanceNoise s).y = s.y := rfl
@[simp] theorem advanceNoise_arg : (advanceNoise s).arg = s.arg := rfl
@[simp] theorem advanceNoise_p : (advanceNoise s).p = s.p := rfl
@[simp] theorem advanceNoise_ps : (advanceNoise s).ps = s.ps := rfl
@[simp] theorem advanceNoise_sine : (advanceNoise s).sine = s.sine := rfl
@[simp] theorem advanceNoise_noiseIdx : (advanceNoise s).noiseIdx = s.noiseIdx + 1 := rfl
@[simp] theorem advanceNoise_lp1 : (advanceNoise s).lp1 = s.lp1 := rfl
@[simp] theorem advanceNoise_dcr : (advanceNoise s).dcr = s.dcr := rfl
@[simp] theorem advanceNoise_iir3 : (advanceNoise s).iir3 = s.iir3 := rfl
@[simp] theorem advanceNoise_rclp : (advanceNoise s).rclp = s.rclp := rfl
@[simp] theorem advanceNoise_rcbp : (advanceNoise s).rcbp = s.rcbp := rfl
@[simp] theorem advanceNoise_moog : (advanceNoise s).moog = s.moog := rfl
@[simp] theorem advanceNoise_bw : (advanceNoise s).bw = s.bw := rfl
@[simp] theorem advanceNoise_harm : (advanceNoise s).harm = s.harm := rfl
@[simp] theorem advanceNoise_delay : (advanceNoise s).delay = s.delay := rfl
@[simp] theorem advanceNoise_blk : (advanceNoise s).blk = s.blk := rfl
@[simp] theorem advanceNoise_mem : (advanceNoise s).mem = s.mem := rfl
@[simp] theorem advanceNoise_port : (advanceNoise s).port = s.port := rfl
@[simp] theorem advanceNoise_rdata : (advanceNoise s).rdata = s.rdata := rfl

end advanceNoiseFields

section blkFinishFields
variable (s : State)

@[simp] theorem blkFinish_conf : (blkFinish s).conf = s.conf := rfl
@[simp] theorem blkFinish_status : (blkFinish s).status = setFlag (clearFlag s.status .busy) .blkDone := rfl
@[simp] theorem blkFinish_ien : (blkFinish s).ien = s.ien := rfl
@[simp] theorem blkFinish_errcode : (blkFinish s).errcode = s.errcode := rfl
@[simp] theorem blkFinish_errinfo : (blkFinish s).errinfo = s.errinfo := rfl
@[simp] theorem blkFinish_errval : (blkFinish s).errval = s.errval := rfl
@[simp] theorem blkFinish_cfgvalid : (blkFinish s).cfgvalid = s.cfgvalid := rfl
@[simp] theorem blkFinish_srate : (blkFinish s).srate = s.srate := rfl
@[simp] theorem blkFinish_basehz : (blkFinish s).basehz = s.basehz := rfl
@[simp] theorem blkFinish_blklen : (blkFinish s).blklen = s.blklen := rfl
@[simp] theorem blkFinish_blkctl : (blkFinish s).blkctl = s.blkctl := rfl
@[simp] theorem blkFinish_x : (blkFinish s).x = s.x := rfl
@[simp] theorem blkFinish_y : (blkFinish s).y = s.y := rfl
@[simp] theorem blkFinish_arg : (blkFinish s).arg = s.arg := rfl
@[simp] theorem blkFinish_p : (blkFinish s).p = s.p := rfl
@[simp] theorem blkFinish_ps : (blkFinish s).ps = s.ps := rfl
@[simp] theorem blkFinish_sine : (blkFinish s).sine = s.sine := rfl
@[simp] theorem blkFinish_noiseIdx : (blkFinish s).noiseIdx = s.noiseIdx := rfl
@[simp] theorem blkFinish_lp1 : (blkFinish s).lp1 = s.lp1 := rfl
@[simp] theorem blkFinish_dcr : (blkFinish s).dcr = s.dcr := rfl
@[simp] theorem blkFinish_iir3 : (blkFinish s).iir3 = s.iir3 := rfl
@[simp] theorem blkFinish_rclp : (blkFinish s).rclp = s.rclp := rfl
@[simp] theorem blkFinish_rcbp : (blkFinish s).rcbp = s.rcbp := rfl
@[simp] theorem blkFinish_moog : (blkFinish s).moog = s.moog := rfl
@[simp] theorem blkFinish_bw : (blkFinish s).bw = s.bw := rfl
@[simp] theorem blkFinish_harm : (blkFinish s).harm = s.harm := rfl
@[simp] theorem blkFinish_delay : (blkFinish s).delay = s.delay := rfl
@[simp] theorem blkFinish_blk : (blkFinish s).blk = s.blk := rfl
@[simp] theorem blkFinish_mem : (blkFinish s).mem = s.mem := rfl
@[simp] theorem blkFinish_port : (blkFinish s).port = s.port := rfl
@[simp] theorem blkFinish_rdata : (blkFinish s).rdata = s.rdata := rfl

end blkFinishFields

end Sys2Proof.Machine
end

