-- ==== Sys2Proof/Laws/Ops.lean ====
section
/-! SUPPORT. What each shared operation can do, said once: the two command templates, the decoded command, a bus access, a host
move. -/

namespace Sys2Proof.Machine

/-- A `PROC` template runs exactly when the unit is configured (41_operator_contract_sys.md R121). -/
theorem whenConfigured_of_configured {u : DspUnit} {s : State} (i : Instr) (run : State) (h : s.configured u = true) :
    whenConfigured u i s run = run := by
  simp [whenConfigured, h]

/-- A `PROC` template on an unconfigured unit records `NOT_CONFIGURED` (60_exceptions.md R257). -/
theorem whenConfigured_of_not {u : DspUnit} {s : State} (i : Instr) (run : State) (h : s.configured u = false) :
    whenConfigured u i s run = recordError .notConfigured (encode i) F64.posZero s := by
  simp [whenConfigured, notConfigured, h]

/-- A `PROC` template gives the run's state or the recorded error. -/
theorem whenConfigured_cases (u : DspUnit) (i : Instr) (s run : State) :
    (s.configured u = true ∧ whenConfigured u i s run = run) ∨
      (s.configured u = false ∧ whenConfigured u i s run = recordError .notConfigured (encode i) F64.posZero s) := by
  cases h : s.configured u
  · exact .inr ⟨rfl, whenConfigured_of_not i run h⟩
  · exact .inl ⟨rfl, whenConfigured_of_configured i run h⟩

/-- A `CFG` template stores an accepted configuration or records the failed check (41_operator_contract_sys.md R123). -/
theorem whenValid_cases {α : Type} (i : Instr) (s : State) (checked : Except (ErrCause × Num64) α) (write : α → State) :
    (∃ a, checked = .ok a ∧ whenValid i s checked write = write a) ∨
      (∃ c v, checked = .error (c, v) ∧ whenValid i s checked write = recordError c (encode i) v s) := by
  cases checked with
  | ok a => exact .inl ⟨a, rfl, rfl⟩
  | error e => exact .inr ⟨e.1, e.2, rfl, rfl⟩

/-- A `CMD` write runs the decoded command or records `ILLEGAL_CMD` (60_exceptions.md R256). -/
theorem runCommand_cases (w : Word32) (s : State) :
    (∃ i, decode w = .ok i ∧ runCommand w s = exec i s) ∨
      (decode w = .error .illegalCommand ∧ runCommand w s = .next (recordError .illegalCmd w F64.posZero s)) := by
  unfold runCommand
  cases h : decode w with
  | ok i => exact .inl ⟨i, rfl, rfl⟩
  | error e => cases e; exact .inr ⟨rfl, rfl⟩

/-- Everything a completed bus write can do (20_memory.md R62). -/
theorem busWrite_cases (a : Addr) (v : Word64) (s : State) :
    (locOf s.conf a = none ∧ busWrite a v s = .next (busError .busUnmapped a F64.posZero s)) ∨
      ∃ l, locOf s.conf a = some l ∧
        ((l.access = .ro ∧ busWrite a v s = .next (busError .busRoWrite a F64.posZero s)) ∨
          (l.access = .wo ∧ busWrite a v s = runCommand (v.setWidth 32) s) ∨
          (l.access = .w1c ∧ busWrite a v s = .next (acknowledge (v.setWidth 32) s)) ∨
          (l.access = .rw ∧ busWrite a v s = .next (writeLoc a v s l))) := by
  unfold busWrite
  cases h : locOf s.conf a with
  | none => exact .inl ⟨rfl, rfl⟩
  | some l => exact .inr ⟨l, rfl, by cases hl : l.access <;> simp [hl]⟩

/-- A completed bus read changes `rdata`, and the error record when the address is unmapped (20_memory.md R67, R68). -/
theorem busRead_cases (a : Addr) (s : State) :
    (locOf s.conf a = none ∧ busRead a s = (busError .busUnmapped a F64.posZero s).withRdata 0) ∨
      ∃ l, locOf s.conf a = some l ∧ busRead a s = s.withRdata (readLoc s l) := by
  unfold busRead
  cases h : locOf s.conf a with
  | none => exact .inl ⟨rfl, rfl⟩
  | some l => exact .inr ⟨l, rfl, rfl⟩

/-- `pop` and the rest: what `delayTake` gives (46_delay.md R218). -/
theorem delayTake_of_full {d : Delay} {v : Num64} {rest : List Num64} (hf : d.fifo = v :: rest)
    (hn : d.fifo.length = d.n.toNat) : delayTake d = (v, rest) := by
  rw [delayTake, Delay.len, if_pos hn, hf, fifoPop]

theorem delayTake_of_filling {d : Delay} (hn : d.fifo.length ≠ d.n.toNat) : delayTake d = (F64.posZero, d.fifo) := by
  simp [delayTake, Delay.len, hn]

/-- The side-chain changes only the named unit (46_delay.md R221): the delay line, `CFGVALID`, `STATUS`, the error record, the memory and
the host's moves are as before. -/
theorem sideProcess_frame (sc : SideChain) (sat : Bool) (t : Num64) (s : State) :
    (sideProcess sc sat t s).2.delay = s.delay ∧ (sideProcess sc sat t s).2.cfgvalid = s.cfgvalid ∧
      (sideProcess sc sat t s).2.status = s.status ∧ (sideProcess sc sat t s).2.errcode = s.errcode ∧
      (sideProcess sc sat t s).2.mem = s.mem ∧ (sideProcess sc sat t s).2.port = s.port ∧
      (sideProcess sc sat t s).2.conf = s.conf := by
  cases sc <;> exact ⟨rfl, rfl, rfl, rfl, rfl, rfl, rfl⟩

/-- The sample step's status: unchanged, or `BUSY` cleared and `BLKDONE` set at the last sample (47_block.md R235, R236). -/
theorem sampleStep_cases (z : Num64) (s : State) :
    (s.blk.idx + 1 = s.blk.n ∧ (sampleStep z s).status = setFlag (clearFlag s.status .busy) .blkDone) ∨
      (s.blk.idx + 1 ≠ s.blk.n ∧ (sampleStep z s).status = s.status) := by
  unfold sampleStep
  by_cases h : s.blk.idx + 1 = s.blk.n
  · exact .inl ⟨h, by simp [h]⟩
  · exact .inr ⟨h, by simp [h]⟩

/-- Everything one step can do (10_state.md R20, 20_memory.md R66, R74). -/
theorem machineStep_cases (s : State) :
    (s.port = [] ∧ s.busy = true ∧ machineStep s = .next (coreStep s)) ∨
      (s.port = [] ∧ s.busy = false ∧ machineStep s = .next s) ∨
      (∃ m rest, s.port = m :: rest ∧ s.busy = true ∧ machineStep s = busyMove m rest s) ∨
      (∃ m rest, s.port = m :: rest ∧ s.busy = false ∧ machineStep s = idleMove m (s.withPort rest)) := by
  unfold machineStep
  cases hp : s.port with
  | nil => cases hb : s.busy <;> simp
  | cons m rest => cases hb : s.busy <;> simp

end Sys2Proof.Machine
end

