-- ==== Sys2Proof/Laws/Commands.lean ====
section
/-! SUPPORT. What the grouped commands of Safety.lean do, in the terms of the shared operations. -/

namespace Sys2Proof.Machine

/-- A configured filter's `PROC` is that unit's `process` on the selected input, its result in `Y` (41_operator_contract_sys.md R121). -/
theorem exec_filterProc (sc : SideChain) (sat iny : Bool) (s : State) (h : s.configured sc.unit = true) :
    exec (filterProc sat iny sc) s =
      .next ((sideProcess sc sat (inputSample iny s) s).2.writeY (sideProcess sc sat (inputSample iny s) s).1) := by
  cases sc
  · exact congrArg _ (whenConfigured_of_configured _ _ h)
  · rfl
  · rfl
  all_goals exact congrArg _ (whenConfigured_of_configured _ _ h)

/-- A configured `DELAY.PROC` with a configured side-chain is `delayProcessSc` on the selected input (46_delay.md R218, R221). -/
theorem exec_delayProcWith (sc : SideChain) (sat iny : Bool) (s : State) (h : s.configured .delay = true)
    (hs : s.configured sc.unit = true) :
    exec (delayProcWith sat iny sc) s = .next (delayProcessSc sc sat (inputSample iny s) s) := by
  have key : ∀ sat i, delayScCommand sc sat iny i s = delayProcessSc sc sat (inputSample iny s) s := fun sat i => by
    rw [delayScCommand, whenConfigured_of_configured _ _ h, whenConfigured_of_configured _ _ hs]
  cases sc <;> exact congrArg Host.Outcome.next (key _ _)

end Sys2Proof.Machine
end

