-- ==== Sys2Proof/Laws/Memory.lean ====
section
/-! SUPPORT. The array memory: reading after writing, and that every memory operation keeps the canonical form. -/

namespace Sys2Proof.Machine

@[simp] theorem Memory.read_nil (a : Nat) : Memory.read [] a = unlistedWord := rfl

@[simp] theorem Memory.above_nil (a : Nat) : Memory.above a [] = true := rfl

theorem Memory.above_cons (a b : Nat) (v : Num64) (m : Memory) :
    Memory.above a ((b, v) :: m) = true ↔ a < b ∧ Memory.above a m = true := by
  simp [Memory.above]

theorem Memory.above_mono {a b : Nat} {m : Memory} (hab : a ≤ b) (h : Memory.above b m = true) : Memory.above a m = true := by
  simp only [Memory.above, List.all_eq_true, decide_eq_true_eq] at h ⊢
  intro c hc
  exact Nat.lt_of_le_of_lt hab (h c hc)

theorem Memory.wf_cons (b : Nat) (v : Num64) (m : Memory) :
    Memory.wf ((b, v) :: m) = true ↔ v ≠ unlistedWord ∧ Memory.above b m = true ∧ Memory.wf m = true := by
  simp [Memory.wf, unlistedWord, and_assoc]

/-- Below the first address nothing is listed. -/
theorem Memory.read_of_above {a : Nat} {m : Memory} (h : Memory.above a m = true) : m.read a = unlistedWord := by
  induction m with
  | nil => rfl
  | cons c m ih =>
    obtain ⟨b, v⟩ := c
    rw [Memory.above_cons] at h
    simp [Memory.read, Nat.ne_of_lt h.1, ih h.2]

theorem Memory.erase_above {a k : Nat} {m : Memory} (h : Memory.above k m = true) : Memory.above k (m.erase a) = true := by
  induction m with
  | nil => rfl
  | cons c m ih =>
    obtain ⟨b, v⟩ := c
    rw [Memory.above_cons] at h
    unfold Memory.erase
    split
    · exact h.2
    · exact (Memory.above_cons ..).2 ⟨h.1, ih h.2⟩

theorem Memory.insert_above {a k : Nat} {v : Num64} {m : Memory} (hk : k < a) (h : Memory.above k m = true) :
    Memory.above k (m.insert a v) = true := by
  induction m with
  | nil => simpa [Memory.insert, Memory.above] using hk
  | cons c m ih =>
    obtain ⟨b, w⟩ := c
    rw [Memory.above_cons] at h
    unfold Memory.insert
    split
    · exact (Memory.above_cons ..).2 ⟨hk, (Memory.above_cons ..).2 h⟩
    · split
      · exact (Memory.above_cons ..).2 ⟨hk, h.2⟩
      · exact (Memory.above_cons ..).2 ⟨h.1, ih h.2⟩

theorem Memory.erase_wf {a : Nat} {m : Memory} (h : m.wf = true) : (m.erase a).wf = true := by
  induction m with
  | nil => rfl
  | cons c m ih =>
    obtain ⟨b, v⟩ := c
    rw [Memory.wf_cons] at h
    unfold Memory.erase
    split
    · exact h.2.2
    · exact (Memory.wf_cons ..).2 ⟨h.1, Memory.erase_above h.2.1, ih h.2.2⟩

theorem Memory.insert_wf {a : Nat} {v : Num64} {m : Memory} (hv : v ≠ unlistedWord) (h : m.wf = true) :
    (m.insert a v).wf = true := by
  induction m with
  | nil => simpa [Memory.insert, Memory.wf, unlistedWord] using hv
  | cons c m ih =>
    obtain ⟨b, w⟩ := c
    have h' := h
    rw [Memory.wf_cons] at h
    unfold Memory.insert
    split
    · next hab =>
      exact (Memory.wf_cons ..).2
        ⟨hv, (Memory.above_cons ..).2 ⟨hab, Memory.above_mono (Nat.le_of_lt hab) h.2.1⟩, h'⟩
    · split
      · next hab => exact (Memory.wf_cons ..).2 ⟨hv, hab ▸ h.2.1, h.2.2⟩
      · exact (Memory.wf_cons ..).2 ⟨h.1, Memory.insert_above (by omega) h.2.1, ih h.2.2⟩

/-- A write keeps the canonical form. -/
theorem Memory.write_wf {m : Memory} (a : Nat) (v : Num64) (h : m.wf = true) : (m.write a v).wf = true := by
  unfold Memory.write
  split
  · exact Memory.erase_wf h
  · next hv => exact Memory.insert_wf hv h

theorem Memory.read_insert_same (a : Nat) (v : Num64) (m : Memory) : (m.insert a v).read a = v := by
  induction m with
  | nil => simp [Memory.insert, Memory.read]
  | cons c m ih =>
    obtain ⟨b, w⟩ := c
    unfold Memory.insert
    split
    · simp [Memory.read]
    · split
      · simp [Memory.read]
      · next hne => simpa [Memory.read, hne] using ih

theorem Memory.read_insert_other {a k : Nat} (v : Num64) (m : Memory) (hk : k ≠ a) : (m.insert a v).read k = m.read k := by
  induction m with
  | nil => simp [Memory.insert, Memory.read, hk]
  | cons c m ih =>
    obtain ⟨b, w⟩ := c
    unfold Memory.insert
    split
    · simp [Memory.read, hk]
    · split
      · next hab => subst hab; simp [Memory.read, hk]
      · simp [Memory.read, ih]

theorem Memory.read_erase_same {a : Nat} {m : Memory} (h : m.wf = true) : (m.erase a).read a = unlistedWord := by
  induction m with
  | nil => rfl
  | cons c m ih =>
    obtain ⟨b, w⟩ := c
    rw [Memory.wf_cons] at h
    unfold Memory.erase
    split
    · next hab => exact Memory.read_of_above (hab ▸ h.2.1)
    · next hab => simpa [Memory.read, hab] using ih h.2.2

theorem Memory.read_erase_other {a k : Nat} (m : Memory) (hk : k ≠ a) : (m.erase a).read k = m.read k := by
  induction m with
  | nil => rfl
  | cons c m ih =>
    obtain ⟨b, w⟩ := c
    unfold Memory.erase
    split
    · next hab => subst hab; simp [Memory.read, hk]
    · simp [Memory.read, ih]

/-- A read after a write to the same address gives the value written. -/
theorem Memory.read_write_same {m : Memory} (a : Nat) (v : Num64) (h : m.wf = true) : (m.write a v).read a = v := by
  unfold Memory.write
  split
  · next hv => rw [Memory.read_erase_same h, hv]
  · exact Memory.read_insert_same a v m

/-- A write leaves every other address alone. -/
theorem Memory.read_write_other {a k : Nat} (v : Num64) (m : Memory) (hk : k ≠ a) : (m.write a v).read k = m.read k := by
  unfold Memory.write
  split
  · exact Memory.read_erase_other m hk
  · exact Memory.read_insert_other v m hk

/-- Both laws at once: a write, read back at any address. -/
theorem Memory.read_write {m : Memory} (a k : Nat) (v : Num64) (h : m.wf = true) :
    (m.write a v).read k = if k = a then v else m.read k := by
  split
  · next hk => subst hk; exact Memory.read_write_same k v h
  · next hk => exact Memory.read_write_other v m hk

/-- The memory at reset is in canonical form. -/
theorem resetState_mem_wf (c : Config) : (resetState c).mem.wf = true := rfl

theorem harmFill_wf (l : Nat) (finc : Num64) (q : HarmParams) (n h : Nat) (m : Memory) (hm : m.wf = true) :
    (harmFill l finc q n h m).wf = true := by
  induction n generalizing h m with
  | zero => exact hm
  | succ n ih => exact ih _ _ (Memory.write_wf _ _ (Memory.write_wf _ _ hm))

theorem harmSum_wf (l n h : Nat) (m : Memory) (acc : Num64) (hm : m.wf = true) : (harmSum l n h m acc).2.wf = true := by
  induction n generalizing h m acc with
  | zero => exact hm
  | succ n ih => exact ih _ _ _ (Memory.write_wf _ _ hm)

theorem harmClear_wf (n h : Nat) (m : Memory) (hm : m.wf = true) : (harmClear n h m).wf = true := by
  induction n generalizing h m with
  | zero => exact hm
  | succ n ih => exact ih _ _ (Memory.write_wf _ _ hm)

/-- `HARM.PROC` keeps the canonical form. -/
theorem harmProcess_wf (s : State) (hm : s.mem.wf = true) : (harmProcess s).2.wf = true := harmSum_wf _ _ _ _ _ hm

end Sys2Proof.Machine
end

