-- ==== Sys2Proof/Laws/Num.lean ====
section
/-! SUPPORT. The accessors of a binary64 pattern on a joined one, and the special values. -/

namespace Sys2Proof.F64

theorem mag_lt (x : Num64) : mag x < 2 ^ 63 := Nat.mod_lt _ (by decide)

theorem toNat_mk {m : Nat} (b : Bool) (h : m < 2 ^ 63) : (mk b m).toNat = m + if b then 2 ^ 63 else 0 := by
  unfold mk
  rw [BitVec.toNat_ofNat]
  apply Nat.mod_eq_of_lt
  cases b <;> simp <;> omega

@[simp] theorem mag_mk {m : Nat} (b : Bool) (h : m < 2 ^ 63) : mag (mk b m) = m := by
  unfold mag
  rw [toNat_mk b h]
  cases b <;> simp <;> omega

@[simp] theorem neg_mk {m : Nat} (b : Bool) (h : m < 2 ^ 63) : neg (mk b m) = b := by
  unfold neg
  rw [toNat_mk b h]
  cases b
  · simp; omega
  · simp

/-- A pattern is its sign and its magnitude. -/
theorem mk_neg_mag (x : Num64) : mk (neg x) (mag x) = x := by
  apply BitVec.eq_of_toNat_eq
  rw [toNat_mk _ (mag_lt x)]
  have hx := x.isLt
  unfold mag neg
  by_cases h : 2 ^ 63 ≤ x.toNat
  · rw [decide_eq_true h, if_pos rfl]; omega
  · rw [decide_eq_false h, if_neg Bool.false_ne_true]; omega

/-- Rounding never exceeds an infinity's pattern. -/
theorem roundMag_le (n d : Nat) : roundMag n d ≤ infBits := Nat.min_le_right _ _

theorem roundMag_lt (n d : Nat) : roundMag n d < 2 ^ 63 := Nat.lt_of_le_of_lt (roundMag_le n d) (by decide)

@[simp] theorem isNaN_qNaN : isNaN qNaN = true := by decide
@[simp] theorem isNaN_posZero : isNaN posZero = false := by decide
@[simp] theorem isZero_posZero : isZero posZero = true := by decide
@[simp] theorem isFinite_posZero : isFinite posZero = true := by decide

theorem isNaN_eq_false_of_isFinite {x : Num64} (h : isFinite x = true) : isNaN x = false := by
  simp only [isFinite, isNaN, decide_eq_true_eq, decide_eq_false_iff_not] at *
  omega

theorem isInf_eq_false_of_isFinite {x : Num64} (h : isFinite x = true) : isInf x = false := by
  simp only [isFinite, isInf, decide_eq_true_eq, decide_eq_false_iff_not] at *
  omega

theorem isFinite_of_isZero {x : Num64} (h : isZero x = true) : isFinite x = true := by
  simp only [isFinite, isZero, decide_eq_true_eq] at *
  rw [h]
  decide

/-- A comparison that holds has no NaN operand (40_function_units.md R102). -/
theorem not_isNaN_of_lt {a b : Num64} (h : lt a b = true) : isNaN a = false ∧ isNaN b = false := by
  simp only [lt, Bool.and_eq_true, Bool.not_eq_true'] at h
  exact h.1

theorem not_isNaN_of_le {a b : Num64} (h : le a b = true) : isNaN a = false ∧ isNaN b = false := by
  simp only [le, Bool.and_eq_true, Bool.not_eq_true'] at h
  exact h.1

end Sys2Proof.F64
end

