-- ==== Sys2Proof/Laws/PerInstr.lean ====
section
/-! SUPPORT. Per-instruction facts about the commands as syntax: their raw fields are legal (30_encoding.md R82 to R87) and are the
fields of the word they encode to (R81). -/

namespace Sys2Proof.Laws.LegalFields

/-- The command's fields are legal and are what its word holds. -/
def Statement (i : Instr) : Prop := i.wellFormed = true ∧ fieldsOfWord (encode i) = i.fields

theorem sineProc : Statement .sineProc := by
  unfold Statement
  decide

theorem sineCfg : Statement .sineCfg := by
  unfold Statement
  decide

theorem sineRst : Statement .sineRst := by
  unfold Statement
  decide

theorem noiseProc : Statement .noiseProc := by
  unfold Statement
  decide

theorem lp1Proc (iny : Bool) : Statement (.lp1Proc iny) := by
  unfold Statement
  cases iny <;> decide

theorem lp1Cfg : Statement .lp1Cfg := by
  unfold Statement
  decide

theorem lp1Rst : Statement .lp1Rst := by
  unfold Statement
  decide

theorem dcrProc (iny : Bool) : Statement (.dcrProc iny) := by
  unfold Statement
  cases iny <;> decide

theorem dcrRst : Statement .dcrRst := by
  unfold Statement
  decide

theorem iir3Proc (iny : Bool) : Statement (.iir3Proc iny) := by
  unfold Statement
  cases iny <;> decide

theorem iir3Rst : Statement .iir3Rst := by
  unfold Statement
  decide

theorem rclpProc (iny : Bool) : Statement (.rclpProc iny) := by
  unfold Statement
  cases iny <;> decide

theorem rclpCfg : Statement .rclpCfg := by
  unfold Statement
  decide

theorem rclpRst : Statement .rclpRst := by
  unfold Statement
  decide

theorem rcbpProc (iny : Bool) : Statement (.rcbpProc iny) := by
  unfold Statement
  cases iny <;> decide

theorem rcbpCfg : Statement .rcbpCfg := by
  unfold Statement
  decide

theorem rcbpRst : Statement .rcbpRst := by
  unfold Statement
  decide

theorem moogProc (sat iny : Bool) : Statement (.moogProc sat iny) := by
  unfold Statement
  cases sat <;> cases iny <;> decide

theorem moogCfg : Statement .moogCfg := by
  unfold Statement
  decide

theorem moogRst : Statement .moogRst := by
  unfold Statement
  decide

theorem bwProc (iny : Bool) : Statement (.bwProc iny) := by
  unfold Statement
  cases iny <;> decide

theorem bwCfg : Statement .bwCfg := by
  unfold Statement
  decide

theorem bwRst : Statement .bwRst := by
  unfold Statement
  decide

theorem bwCfgLp : Statement .bwCfgLp := by
  unfold Statement
  decide

theorem bwCfgHp : Statement .bwCfgHp := by
  unfold Statement
  decide

theorem bwCfgBp : Statement .bwCfgBp := by
  unfold Statement
  decide

theorem harmProc : Statement .harmProc := by
  unfold Statement
  decide

theorem harmCfg : Statement .harmCfg := by
  unfold Statement
  decide

theorem harmRst : Statement .harmRst := by
  unfold Statement
  decide

theorem delayProc (iny : Bool) : Statement (.delayProc iny) := by
  unfold Statement
  cases iny <;> decide

theorem delayProcScLp1 (iny : Bool) : Statement (.delayProcScLp1 iny) := by
  unfold Statement
  cases iny <;> decide

theorem delayProcScDcr (iny : Bool) : Statement (.delayProcScDcr iny) := by
  unfold Statement
  cases iny <;> decide

theorem delayProcScIir3 (iny : Bool) : Statement (.delayProcScIir3 iny) := by
  unfold Statement
  cases iny <;> decide

theorem delayProcScRclp (iny : Bool) : Statement (.delayProcScRclp iny) := by
  unfold Statement
  cases iny <;> decide

theorem delayProcScRcbp (iny : Bool) : Statement (.delayProcScRcbp iny) := by
  unfold Statement
  cases iny <;> decide

theorem delayProcScMoog (sat iny : Bool) : Statement (.delayProcScMoog sat iny) := by
  unfold Statement
  cases sat <;> cases iny <;> decide

theorem delayProcScBw (iny : Bool) : Statement (.delayProcScBw iny) := by
  unfold Statement
  cases iny <;> decide

theorem delayCfg : Statement .delayCfg := by
  unfold Statement
  decide

theorem delayRst : Statement .delayRst := by
  unfold Statement
  decide

theorem delayProcNt (iny : Bool) : Statement (.delayProcNt iny) := by
  unfold Statement
  cases iny <;> decide

theorem blkRun : Statement .blkRun := by
  unfold Statement
  decide

theorem sysNop : Statement .sysNop := by
  unfold Statement
  decide

theorem sysRstAll : Statement .sysRstAll := by
  unfold Statement
  decide

end Sys2Proof.Laws.LegalFields
end

