-- ==== Sys2Proof/Tests/Slice0.lean ====
section
/-! SUPPORT. Named tests. Expected values are the spec's: the tables and examples of 40_function_units.md to 47_block.md and the vectors of
95_test_vectors.md; words are written out from 30_encoding.md. Witnesses show that the hypotheses of each statement are met. -/

namespace Sys2Proof.Tests

set_option Elab.async false

open Sys2Proof Sys2Proof.Machine

/-! ## Well-formedness: one ill-formed term for each check -/

/-- The legal fields of `SYS.NOP`. -/
def nopFields : CmdFields := ⟨0, 15, false, false, 0, 0⟩

theorem test_fields_nop_legal : nopFields.wellFormed = true := by decide
theorem test_fields_op_refused : (CmdFields.mk 2 1 false false 0 0).opExists = false := by decide
theorem test_fields_unit_refused : (CmdFields.mk 1 12 false false 0 0).wellFormed = false := by decide
theorem test_fields_sat_refused : (CmdFields.mk 1 2 true false 0 0).satLegal = false := by decide
theorem test_fields_iny_refused : (CmdFields.mk 1 0 false true 0 0).inyLegal = false := by decide
theorem test_fields_sc_refused : (CmdFields.mk 1 10 false false 1 0).scLegal = false := by decide
theorem test_fields_rsv_refused : (CmdFields.mk 1 0 false false 0 1).rsvLegal = false := by decide

theorem test_reference_conf_legal : referenceConf.wellFormed = true := by decide +kernel

/-- One record for each constraint of 00_scope.md R7, each breaking only that constraint. -/
def illFormedConfs : List Config :=
  [{ referenceConf with lutBits := 3 }, { referenceConf with lutBits := 18 }, { referenceConf with harmMax := 4097 },
   { referenceConf with delayMax := 0 }, { referenceConf with delayMax := 65537 }, { referenceConf with obufDepth := 65537 },
   { referenceConf with blockLen := 0 }, { referenceConf with blockLen := 1025 },
   { referenceConf with srateReset := F64.posZero }, { referenceConf with srateReset := F64.posInf },
   { referenceConf with baseHzReset := F64.negOne }, { referenceConf with baseHzReset := F64.qNaN },
   { referenceConf with paramTable := referenceConf.paramTable.set 0 ⟨F64.two, F64.posZero, F64.one⟩ },
   { referenceConf with paramTable := referenceConf.paramTable.set 6 ⟨F64.one, F64.half, F64.two⟩ },
   { referenceConf with paramTable := referenceConf.paramTable.set 6 ⟨F64.one, F64.one, F64.ofNat 65⟩ },
   { referenceConf with ditherAmp := F64.negOne }, { referenceConf with iir3Cx := F64.posInf },
   { referenceConf with bwOrderMax := 63 }, { referenceConf with bwOrderMax := 0 }]

theorem test_conf_each_constraint_refused : illFormedConfs.all (fun c => !c.wellFormed) = true := by decide +kernel

/-! ## Decoding: words written out from 30_encoding.md R81 (RSV | SC | INY | SAT | UNIT | OP) -/

/-- Every row of units 0 to 6. -/
def wordsPrimitive : List (Word32 × Instr) :=
  [(0b000000000000000000_0000_0_0_0000_0001, .sineProc), (0b000000000000000000_0000_0_0_0000_0010, .sineCfg),
   (0b000000000000000000_0000_0_0_0000_0011, .sineRst), (0b000000000000000000_0000_0_0_0001_0001, .noiseProc),
   (0b000000000000000000_0000_0_0_0010_0001, .lp1Proc false), (0b000000000000000000_0000_1_0_0010_0001, .lp1Proc true),
   (0b000000000000000000_0000_0_0_0010_0010, .lp1Cfg), (0b000000000000000000_0000_0_0_0010_0011, .lp1Rst),
   (0b000000000000000000_0000_1_0_0011_0001, .dcrProc true), (0b000000000000000000_0000_0_0_0011_0011, .dcrRst),
   (0b000000000000000000_0000_0_0_0100_0001, .iir3Proc false), (0b000000000000000000_0000_0_0_0100_0011, .iir3Rst),
   (0b000000000000000000_0000_1_0_0101_0001, .rclpProc true), (0b000000000000000000_0000_0_0_0101_0010, .rclpCfg),
   (0b000000000000000000_0000_0_0_0101_0011, .rclpRst), (0b000000000000000000_0000_0_0_0110_0001, .rcbpProc false),
   (0b000000000000000000_0000_0_0_0110_0010, .rcbpCfg), (0b000000000000000000_0000_0_0_0110_0011, .rcbpRst)]

/-- Every row of units 7 to 9. -/
def wordsComposite : List (Word32 × Instr) :=
  [(0b000000000000000000_0000_0_0_0111_0001, .moogProc false false), (0b000000000000000000_0000_0_1_0111_0001, .moogProc true false),
   (0b000000000000000000_0000_1_0_0111_0001, .moogProc false true), (0b000000000000000000_0000_0_0_0111_0010, .moogCfg),
   (0b000000000000000000_0000_0_0_0111_0011, .moogRst), (0b000000000000000000_0000_1_0_1000_0001, .bwProc true),
   (0b000000000000000000_0000_0_0_1000_0010, .bwCfg), (0b000000000000000000_0000_0_0_1000_0011, .bwRst),
   (0b000000000000000000_0000_0_0_1000_0100, .bwCfgLp), (0b000000000000000000_0000_0_0_1000_0101, .bwCfgHp),
   (0b000000000000000000_0000_0_0_1000_0110, .bwCfgBp), (0b000000000000000000_0000_0_0_1001_0001, .harmProc),
   (0b000000000000000000_0000_0_0_1001_0010, .harmCfg), (0b000000000000000000_0000_0_0_1001_0011, .harmRst)]

/-- Every row of units 10, 11 and 15. -/
def wordsDelayBlkSys : List (Word32 × Instr) :=
  [(0b000000000000000000_0000_0_0_1010_0001, .delayProc false), (0b000000000000000000_0010_1_0_1010_0001, .delayProcScLp1 true),
   (0b000000000000000000_0011_0_0_1010_0001, .delayProcScDcr false), (0b000000000000000000_0100_1_0_1010_0001, .delayProcScIir3 true),
   (0b000000000000000000_0101_0_0_1010_0001, .delayProcScRclp false), (0b000000000000000000_0110_0_0_1010_0001, .delayProcScRcbp false),
   (0b000000000000000000_0111_1_0_1010_0001, .delayProcScMoog false true), (0b000000000000000000_0111_0_1_1010_0001, .delayProcScMoog true false),
   (0b000000000000000000_1000_0_0_1010_0001, .delayProcScBw false), (0b000000000000000000_0000_0_0_1010_0010, .delayCfg),
   (0b000000000000000000_0000_0_0_1010_0011, .delayRst), (0b000000000000000000_0000_1_0_1010_0100, .delayProcNt true),
   (0b000000000000000000_0000_0_0_1011_0001, .blkRun), (0b000000000000000000_0000_0_0_1111_0000, .sysNop),
   (0b000000000000000000_0000_0_0_1111_0011, .sysRstAll)]

/-- The words 95_test_vectors.md section 2.2 calls illegal. -/
def wordsIllegal : List Word32 :=
  [0x00000201, 0x00000121, 0x00000012, 0x00000013, 0x00000032, 0x00000042, 0x000009A1, 0x000004A1, 0x000024A1, 0x000028A1,
   0x00000821, 0x000008A4, 0x000001B1, 0x000000B2, 0x000000B3, 0x000000C1, 0x000000D1, 0x000000E1, 0x000000F1, 0x000000F2,
   0x00000000, 0x00000087, 0x00004071, 0x80000001]

/-- The word decodes to the command and the command encodes to the word. -/
def wordIs (e : Word32 × Instr) : Bool := (decode e.1).toOption == some e.2 && encode e.2 == e.1

theorem test_decode_primitive : wordsPrimitive.all wordIs = true := by decide
theorem test_decode_composite : wordsComposite.all wordIs = true := by decide
theorem test_decode_delay_blk_sys : wordsDelayBlkSys.all wordIs = true := by decide
theorem test_decode_illegal : wordsIllegal.all (fun w => (decode w).toOption == none) = true := by decide
theorem test_decode_ignores_high_data : decodeTableWord 64 0xFFFFFFFF000000F0 = some .sysNop := by decide
theorem test_decode_table_word : decodeTableWord 32 0x1FA1 = some (.delayProcScMoog true true) := by decide

/-! ## Function units (95_test_vectors.md section 2.1) -/

theorem test_num_add_ties_to_even : F64.add 0x4340000000000000#64 F64.one = 0x4340000000000000#64 := by decide +kernel
theorem test_num_div_third : F64.div F64.one (F64.ofNat 3) = 0x3FD5555555555555#64 := by decide +kernel
theorem test_num_subnormal : F64.mul 0x0010000000000000#64 F64.half = 0x0008000000000000#64 := by decide +kernel
theorem test_num_overflow : F64.mul 0x7FEFFFFFFFFFFFFF#64 F64.two = F64.posInf := by decide +kernel
theorem test_floor_negative : F64.floor 0xBFE0000000000000#64 = -1 ∧ F64.floor F64.two = 2 := by decide +kernel
theorem test_exp2_half : F64.exp2 F64.half = 0x3FF6A09E667F3BCD#64 := by decide +kernel
theorem test_exp2_least_subnormal : F64.exp2 0xC090C80000000000#64 = 1#64 := by decide +kernel
theorem test_log2_99 : F64.log2 (F64.ofNat 99) = 0x401A84760FD30D55#64 := by decide +kernel
theorem test_log2_eighth_power : F64.log2 (F64.ofNat 8) = F64.ofNat 3 := by decide +kernel
theorem test_sin_tenth : sin2pi 10 0x3FB999999999999A#64 = 0x3FE2CF1D71F3BCC9#64 := by decide +kernel
theorem test_sin_minus_tenth : sin2pi 10 0xBFB999999999999A#64 = 0xBFE2CF1D71F3BCC8#64 := by decide +kernel
theorem test_cos_quadrants : cos2pi 10 F64.posZero = F64.one ∧ cos2pi 10 F64.half = F64.negOne := by decide +kernel
theorem test_tanw_1000 : tanw 10 (F64.ofNat 44100) (F64.ofNat 1000) = 0x3FB24490094E8460#64 := by decide +kernel
theorem test_clip : clip F64.negInf = F64.negOne ∧ clip F64.qNaN = F64.posZero ∧ clip 0x3FF0000000000001#64 = F64.one := by decide +kernel
/-- The generated ROM is the table of 40_function_units.md R110, which the model holds as literals at the reference size. -/
theorem test_rom_generated_is_table :
    [0, 1, 31, 64, 101, 128, 170, 203, 255, 256].all (fun q => sinqComputed 10 q == sinqTable.getD q 0) = true := by decide +kernel
/-- The exact comparison brackets `SINQ[1]` at `LUT_BITS = 4`: `sin(pi/8)` lies between 0.3826 and 0.3827. -/
theorem test_rom_compare : cosCompare 4 3 3826 10000 = .gt ∧ cosCompare 4 3 3827 10000 = .lt ∧ cosCompare 4 5 (-3827) 10000 = .gt := by
  decide +kernel
/-- The constants of 10_state.md R49 are the `NUM`s nearest their decimal literals. -/
theorem test_constants :
    [(c001, 1, 100), (c099, 99, 100), (c03, 3, 10), (c015, 15, 100), (c035013, 35013, 100000), (c095, 95, 100), (c005, 5, 100),
     (c02, 2, 10), (c049, 49, 100)].all (fun e => F64.div (F64.ofNat e.2.1) (F64.ofNat e.2.2) == e.1) = true := by decide +kernel

/-! ## Commands -/

/-- The command's next state has the value. -/
def leaves {α : Type} [DecidableEq α] (i : Instr) (s : State) (f : State → α) (v : α) : Bool :=
  match exec i s with
  | .next t => decide (f t = v)
  | _ => false

/-- Reset with operands in `ARG0..ARG5`. -/
def args (a0 a1 a2 a3 a4 a5 : Num64) : State := { State.reset with arg := #v[a0, a1, a2, a3, a4, a5] }

/-- A state that meets the invariant with every unit configured: the ladder at 0 Hz, the delay line of two samples, designs of order 2. -/
def ready : State := { State.reset with
  cfgvalid := 0x7FF#32
  moog := { State.reset.moog with af := F64.one }
  delay := ⟨2#32, F64.half, [], F64.posZero⟩
  bw := { State.reset.bw with
    mode := 3#32
    s0 := { State.reset.bw.s0 with coefs := { State.reset.bw.s0.coefs with n := 2#32 } }
    s1 := { State.reset.bw.s1 with coefs := { State.reset.bw.s1.coefs with n := 2#32 } } } }

/-- `k` as a `NUM`. -/
def num (k : Nat) : Num64 := F64.ofNat k
/-- `+0`. -/
def z : Num64 := F64.posZero
/-- 0.9 -/
def p9 : Num64 := 0x3FECCCCCCCCCCCCD#64
/-- 0.1 -/
def p1 : Num64 := 0x3FB999999999999A#64

theorem test_sine_cfg : leaves .sineCfg (args (num 441) z z z z z) (·.sine.inc) 0x3F847AE147AE147B#64 = true := by decide +kernel
theorem test_sine_proc : leaves .sineProc { ready with sine := ⟨num 441, 0x3F847AE147AE147B#64, 0x3F847AE147AE147B#64⟩ }
    (·.y) 0x3FC00AE66C296C36#64 = true := by decide +kernel
theorem test_sine_rst : leaves .sineRst { ready with sine := ⟨num 441, p1, p9⟩ } (·.sine) ⟨num 441, p1, z⟩ = true := by decide +kernel
theorem test_sine_not_configured : leaves .sineProc State.reset (fun t => (t.status, t.errcode, t.errinfo)) (0x20, 2, 1) = true := by
  decide +kernel
theorem test_noise_index_wraps : leaves .noiseProc { State.reset with noiseIdx := 0xFFFFFFFFFFFFFFFF#64 } (·.noiseIdx) 0 = true := by
  decide +kernel
theorem test_lp1_cfg_refuses_above_one : leaves .lp1Cfg (args 0x3FF0000000000001#64 z z z z z)
    (fun t => (t.errcode, t.errinfo, t.errval, t.lp1.k)) (0x30, 0x22, 0x3FF0000000000001#64, z) = true := by decide +kernel
theorem test_lp1_cfg_accepts_one : leaves .lp1Cfg (args F64.one z z z z z) (fun t => (t.lp1.k, t.cfgvalid)) (F64.one, 0x1E) = true := by
  decide +kernel
theorem test_lp1_proc : leaves (.lp1Proc false) { ready with x := F64.one, lp1 := ⟨F64.quarter, F64.quarter⟩ } (·.y)
    0x3FDC000000000000#64 = true := by decide +kernel
theorem test_lp1_proc_iny : leaves (.lp1Proc true) { ready with x := z, y := F64.one, lp1 := ⟨F64.quarter, z⟩ } (·.y) F64.quarter = true := by
  decide +kernel
theorem test_lp1_rst : leaves .lp1Rst { ready with lp1 := ⟨p9, p1⟩ } (·.lp1) ⟨p9, z⟩ = true := by decide +kernel
theorem test_dcr_proc : leaves (.dcrProc false) { ready with x := F64.one, dcr := ⟨c001⟩ } (·.y) 0x3FEF5CFAACD9E83E#64 = true := by
  decide +kernel
theorem test_dcr_rst : leaves .dcrRst { ready with dcr := ⟨p1⟩ } (·.dcr) ⟨z⟩ = true := by decide +kernel
theorem test_iir3_proc : leaves (.iir3Proc false) { ready with x := F64.one, iir3 := ⟨0x3F741205BC01A36E#64, z⟩ }
    (fun t => (t.y, t.iir3)) (0x3F76098C70BC2ABE#64, ⟨0x3F76098C70BC2ABE#64, 0x3F741205BC01A36E#64⟩) = true := by decide +kernel
theorem test_iir3_rst : leaves .iir3Rst { ready with iir3 := ⟨p1, p9⟩ } (·.iir3) ⟨z, z⟩ = true := by decide +kernel
theorem test_rclp_cfg : leaves .rclpCfg (args (num 1000) z z z z z) (·.rclp)
    ⟨0x3EF7C6F8C751F177#64, 0x3F24DC5A8D185AA3#64, 0x3FBFECDCBB3152A9#64, z⟩ = true := by decide +kernel
theorem test_rclp_cfg_zero_hz : leaves .rclpCfg (args F64.qNaN z z z z z) (fun t => (t.rclp.rc, t.rclp.alpha)) (F64.posInf, z) = true := by
  decide +kernel
theorem test_rclp_proc : leaves (.rclpProc false)
    { ready with x := F64.one, rclp := ⟨z, z, 0x3FBFECDCBB3152A9#64, 0x3FBFECDCBB3152A9#64⟩ } (·.y) 0x3FCDEF406CAA9F0C#64 = true := by
  decide +kernel
theorem test_rclp_rst : leaves .rclpRst { ready with rclp := ⟨p1, p9, p1, p9⟩ } (·.rclp) ⟨p1, p9, p1, z⟩ = true := by decide +kernel
theorem test_rcbp_cfg : leaves .rcbpCfg (args (num 100) (num 5000) z z z z) (fun t => (t.rcbp.hp.alpha, t.rcbp.lp.alpha))
    (0x3F8CC4E7F5F0B074#64, 0x3FDAA006BAC085F9#64) = true := by decide +kernel
theorem test_rcbp_proc : leaves (.rcbpProc false)
    { ready with x := F64.one, rcbp := ⟨⟨z, z, 0x3F8CC4E7F5F0B074#64, z⟩, ⟨z, z, 0x3FDAA006BAC085F9#64, z⟩⟩ } (·.y)
    0x3FDA40474E8EBC8D#64 = true := by decide +kernel
theorem test_rcbp_rst : leaves .rcbpRst { ready with rcbp := ⟨⟨p1, p1, p1, p9⟩, ⟨p9, p9, p9, p1⟩⟩ } (·.rcbp)
    ⟨⟨p1, p1, p1, z⟩, ⟨p9, p9, p9, z⟩⟩ = true := by decide +kernel
theorem test_moog_cfg : leaves .moogCfg (args (num 5000) F64.half z z z z) (fun t => (t.moog.f, t.moog.af, t.moog.sqf, t.moog.fb))
    (0x3FE6CBCFA53F944B#64, 0x3FD26860B580D76A#64, 0x3FE03D4F9AFB67CC#64, 0x3FDD9067425A4A08#64) = true := by decide +kernel
theorem test_moog_cfg_clamps : leaves .moogCfg (args F64.posInf F64.one z z z z) (fun t => (t.moog.f, t.moog.fb))
    (0x400921FB54442D18#64, 0xBFDEBF8A2EC48290#64) = true := by decide +kernel
theorem test_moog_proc : leaves (.moogProc false false)
    { ready with x := F64.one, moog := { ready.moog with af := 0x3FEDFE72D8E1D43B#64, sqf := 0x3F7018DC126C228A#64 } }
    (fun t => (t.y, t.moog.st4)) (0x3ED6AE5FC6635FDA#64, ⟨0x3ED6AE5FC6635FDA#64, 0x3ED6AE5FC6635FDA#64⟩) = true := by decide +kernel
theorem test_moog_proc_sat_clips_result_only : leaves (.moogProc true false)
    { ready with x := num 100, moog := { ready.moog with af := 0x3FD26860B580D76A#64, sqf := 0x3FE03D4F9AFB67CC#64 } }
    (fun t => (t.y, t.moog.st4.prevOut)) (F64.one, 0x402208D5EF22B8F4#64) = true := by decide +kernel
theorem test_moog_rst : leaves .moogRst { ready with moog := { ready.moog with st1 := ⟨p1, p9⟩, st4 := ⟨p9, p1⟩ } } (·.moog) ready.moog =
    true := by decide +kernel
theorem test_bw_cfg : leaves .bwCfg (args (num 1000) (num 2000) p9 p1 z z) (·.bw.s0.coefs)
    ⟨0x3F827B21406C7116#64, 0x3F927B21406C7116#64, 0x3F827B21406C7116#64, 0xBFFDE4EF43C8D7D8#64, 0x3FECF1909B9876C2#64, 6,
      0x3FB90A30A0729ACC#64, 0⟩ = true := by decide +kernel
theorem test_bw_cfg_equal_edges : leaves .bwCfg (args (num 1000) (num 1000) p9 p1 z z)
    (fun t => (t.status, t.errcode, t.errinfo, t.errval, t.cfgvalid)) (2, 0x12, 0x82, 0x408F400000000000#64, 0x1A) = true := by
  decide +kernel
theorem test_bw_cfg_lp : leaves .bwCfgLp (args (num 1000) F64.half (num 4) z z z) (fun t => (t.bw.s0.coefs.n, t.bw.s0.coefs.b1, t.bw.gain))
    (20, 0xBFFF3FD53BC71DD8#64, F64.half) = true := by decide +kernel
theorem test_bw_cfg_hp : leaves .bwCfgHp (args (num 1000) F64.two (num 4) z z z) (fun t => (t.bw.s0.coefs.n, t.bw.s0.coefs.a1, t.bw.mode))
    (16, 0xBFFF78A60B52955E#64, 2) = true := by decide +kernel
theorem test_bw_cfg_bp_second_leg_fails : leaves .bwCfgBp (args (num 15000) F64.one F64.two z z z)
    (fun t => (t.errcode, t.errval, t.bw)) (0x11, num 22500, State.reset.bw) = true := by decide +kernel
theorem test_bw_proc : leaves (.bwProc false)
    { ready with x := F64.one, bw := { ready.bw with mode := 0, gain := F64.one, s0 := { ready.bw.s0 with coefs :=
      { ready.bw.s0.coefs with a0 := 0x3F827B21406C7116#64 } } } } (fun t => (t.y, t.bw.s0.x1)) (0x3F827B21406C7116#64, F64.one) = true := by
  decide +kernel
theorem test_bw_rst : leaves .bwRst { ready with bw := { ready.bw with s1 := { ready.bw.s1 with x2 := p1, y1 := p9 } } } (·.bw) ready.bw =
    true := by decide +kernel
theorem test_harm_cfg : leaves .harmCfg (args (num 5) (num 100) z (num 300) F64.one F64.one)
    (fun t => (t.harm.count, t.mem.harmInc 4, t.mem.harmAmp 4, t.mem.harmAmp 5))
    (5, 0x3F8293725BB804A5#64, 0x3FE7FFFDCDDDE2CD#64, z) = true := by decide +kernel
theorem test_harm_count_limits : [F64.qNaN, num 0, 0x4007333333333333#64, num 64, num 65, F64.posInf].map (harmCount 64) =
    [1, 1, 2, 64, 64, 64] := by decide +kernel
theorem test_harm_proc : leaves .harmProc
    { ready with harm := { ready.harm with count := 2, master := F64.one },
                 mem := [(0x02001, F64.one), (0x03001, F64.quarter)] } (fun t => (t.y, t.mem.harmPhase 1)) (F64.half, F64.quarter) = true := by
  decide +kernel
theorem test_harm_rst : leaves .harmRst { ready with mem := [(0x01000, p1), (0x0103F, p9), (0x02000, p1)] } (·.mem) [(0x02000, p1)] = true := by
  decide +kernel
theorem test_delay_cfg_drops_oldest : leaves .delayCfg
    { args (0x400599999999999A#64) z z z z z with delay := ⟨4, z, [num 1, num 2, num 3, num 4], z⟩ }
    (fun t => (t.delay.n, t.delay.fifo)) (2, [num 3, num 4]) = true := by decide +kernel
theorem test_delay_cfg_checks : leaves .delayCfg (args (num 65537) z z z z z) (·.errcode) 0x21 = true ∧
    leaves .delayCfg (args (num 4) F64.one z z z z) (·.errcode) 0x22 = true := by decide +kernel
theorem test_delay_proc_filling : leaves (.delayProc false) { ready with x := F64.one } (fun t => (t.y, t.delay.fifo)) (z, [F64.one]) =
    true := by decide +kernel
theorem test_delay_proc_full : leaves (.delayProc false) { ready with x := z, delay := ⟨2, F64.half, [F64.one, z], z⟩ }
    (fun t => (t.y, t.delay.fifo)) (F64.one, [z, F64.half]) = true := by decide +kernel
theorem test_delay_sc_lp1 : leaves (.delayProcScLp1 false) { ready with x := F64.one, lp1 := ⟨F64.half, z⟩, delay := ⟨1, F64.half, [z], z⟩ }
    (fun t => (t.y, t.lp1.mem, t.delay.fifo)) (z, F64.half, [F64.half]) = true := by decide +kernel
theorem test_delay_sc_dcr : leaves (.delayProcScDcr false) { ready with x := F64.one } (fun t => (t.dcr.mem, t.delay.fifo))
    (c001, [0x3FEFAE147AE147AE#64]) = true := by decide +kernel
theorem test_delay_sc_iir3 : leaves (.delayProcScIir3 false) { ready with x := F64.one } (·.delay.fifo) [0x3F741205BC01A36E#64] = true := by
  decide +kernel
theorem test_delay_sc_rclp : leaves (.delayProcScRclp false) { ready with x := F64.one, rclp := ⟨z, z, 0x3FBFECDCBB3152A9#64, z⟩ }
    (·.delay.fifo) [0x3FBFECDCBB3152A9#64] = true := by decide +kernel
theorem test_delay_sc_rcbp : leaves (.delayProcScRcbp true)
    { ready with y := F64.one, rcbp := ⟨⟨z, z, 0x3F8CC4E7F5F0B074#64, z⟩, ⟨z, z, 0x3FDAA006BAC085F9#64, z⟩⟩ } (·.delay.fifo)
    [0x3FDA40474E8EBC8D#64] = true := by decide +kernel
theorem test_delay_sc_moog_sat : leaves (.delayProcScMoog true false)
    { ready with x := num 100, moog := { ready.moog with af := 0x3FD26860B580D76A#64, sqf := 0x3FE03D4F9AFB67CC#64 } }
    (fun t => (t.delay.fifo, t.moog.st4.prevOut)) ([F64.one], 0x402208D5EF22B8F4#64) = true := by decide +kernel
theorem test_delay_sc_bw_not_configured : leaves (.delayProcScBw false) { ready with cfgvalid := 0x6FF#32 }
    (fun t => (t.errcode, t.errinfo, t.delay.fifo)) (2, 0x20A1, []) = true := by decide +kernel
theorem test_delay_procnt : leaves (.delayProcNt false) { ready with x := F64.two, delay := ⟨5, F64.half, [p1], F64.quarter⟩ }
    (fun t => (t.y, t.delay.cell, t.delay.fifo)) (F64.quarter, 0x4001000000000000#64, [p1]) = true := by decide +kernel
theorem test_delay_rst : leaves .delayRst { ready with delay := ⟨2, p1, [p9], p9⟩ } (·.delay) ⟨2, p1, [], z⟩ = true := by decide +kernel
/-- 47_block.md example 1. -/
theorem test_blk_run : leaves .blkRun State.reset (fun t => (t.status, t.cfgvalid, t.moog.f, t.mem.harmInc 1, t.blk.n))
    (1, 0x29A, 0x3FD00C6938F15E29#64, 0x3F846EFDCB4A6B82#64, 128) = true := by decide +kernel
/-- 47_block.md example 2: the volume clamped, a NaN resonance at its default. -/
theorem test_blk_snapshot_clamps :
    leaves .blkRun { State.reset with p := #v[F64.two, F64.half, F64.qNaN, num 3, num 9, F64.negOne, 0x400D99999999999A#64, num 3, num 3] }
      (fun t => (t.ps[0], t.ps[2], t.ps[4], t.harm.count)) (F64.one, z, num 7, 3) = true := by decide +kernel
theorem test_sys_nop : leaves .sysNop ready (fun t => t) ready = true := by decide +kernel
theorem test_sys_rst_all : leaves .sysRstAll { ready with lp1 := ⟨p1, p9⟩, noiseIdx := 7, mem := [(0x01005, p1), (0x10000, p9)] }
    (fun t => (t.lp1, t.noiseIdx, t.mem)) (⟨p1, z⟩, 7, [(0x10000, p9)]) = true := by decide +kernel

/-! ## The port -/

/-- The step's next state has the value. -/
def stepLeaves {α : Type} [DecidableEq α] (s : State) (f : State → α) (v : α) : Bool :=
  match step s with
  | .next t => decide (f t = v)
  | _ => false

theorem test_fetch_runs_command : stepLeaves ((args (num 441) z z z z z).withFetchWord 32 2) (·.sine.inc) 0x3F847AE147AE147B#64 = true := by
  decide +kernel
theorem test_unmapped_read : stepLeaves (State.reset.withPort [.read 0x0000E#18]) (fun t => (t.rdata, t.status, t.errcode, t.errinfo))
    (0, 8, 3, 0xE) = true := by decide +kernel
theorem test_read_only_write : stepLeaves (State.reset.withPort [.write 0x30000#18 5#64]) (fun t => (t.status, t.errcode, t.errinfo))
    (8, 4, 0x30000) = true := by decide +kernel
theorem test_refused_rate : stepLeaves (State.reset.withPort [.write 0x00008#18 F64.negOne]) (fun t => (t.errcode, t.errval, t.srate))
    (5, F64.negOne, num 44100) = true := by decide +kernel
theorem test_read_id : stepLeaves (State.reset.withPort [.read 0x00000#18]) (·.rdata) 0x44534307 = true := by decide +kernel
theorem test_read_rom_top : stepLeaves (State.reset.withPort [.read 0x30100#18]) (·.rdata) F64.one = true := by decide +kernel

/-- A running block of one sample, the ladder at 0 Hz. -/
def running : State := { ready with status := 1#32, blk := ⟨0, 1, false⟩ }

theorem test_held_write_lets_core_finish : stepLeaves (running.withPort [.write 0x0000C#18 F64.one])
    (fun t => (t.status, t.x, t.port)) (0x10, z, [.write 0x0000C#18 F64.one]) = true := by decide +kernel
theorem test_param_write_completes_while_busy : stepLeaves (running.withPort [.write 0x00020#18 F64.one]) (fun t => (t.status, t.p[0]))
    (1, F64.one) = true := by decide +kernel

/-! ## Witnesses: concrete states and operands that meet the hypotheses of each statement, each clause at a boundary of its range -/

/-- The outcome is a next state. -/
def isNext (o : Host.Outcome State Fault Refusal) : Bool :=
  match o with
  | .next _ => true
  | _ => false

theorem exists_next {o : Host.Outcome State Fault Refusal} (h : isNext o = true) : ∃ t, o = .next t := by
  cases o with
  | next t => exact ⟨t, rfl⟩
  | fault f => cases f
  | refused r => cases h

/-- The design is accepted. -/
def accepted (e : Except (ErrCause × Num64) BwCoefs) : Bool :=
  match e with
  | .ok _ => true
  | .error _ => false

theorem exists_ok {e : Except (ErrCause × Num64) BwCoefs} (h : accepted e = true) : ∃ d, e = .ok d := by
  cases e with
  | ok d => exact ⟨d, rfl⟩
  | error x => cases h

theorem exists_error {e : Except (ErrCause × Num64) BwCoefs} (h : accepted e = false) : ∃ c v, e = .error (c, v) := by
  cases e with
  | ok d => cases h
  | error x => exact ⟨x.1, x.2, rfl⟩

/-- The invariant spelled out as one decidable proposition. -/
abbrev InvParts (s : State) : Prop :=
  s.conf.wellFormed = true ∧
  (s.status &&& 0xFFFFFFC0#32 = 0 ∧ s.ien &&& 0xFFFFFFC1#32 = 0 ∧ s.blkctl &&& 0xFFFFFFFE#32 = 0 ∧
    s.errcode &&& 0xFFFFFF00#32 = 0 ∧ s.cfgvalid &&& 0xFFFFF81A#32 = 0x1A#32) ∧
  (ratePositive s.srate = true ∧ ratePositive s.basehz = true ∧ blklenValid s.conf s.blklen = true) ∧
  (∀ i : Fin 9, F64.le (s.conf.paramTable[i]).min s.ps[i] = true ∧ F64.le s.ps[i] (s.conf.paramTable[i]).max = true) ∧
  (F64.le F64.posZero s.moog.f = true ∧ F64.le s.moog.f numPi = true ∧ (s.configured .moog = true →
    s.moog.af = F64.sub F64.one s.moog.f ∧ s.moog.sqf = F64.mul s.moog.f s.moog.f ∧
      s.moog.fb = F64.mul s.moog.res (F64.sub F64.one (F64.mul c015 s.moog.sqf)))) ∧
  (1 ≤ s.harm.count.toNat ∧ s.harm.count.toNat ≤ s.conf.harmMax) ∧
  (s.delay.len ≤ s.delay.n.toNat ∧ (s.configured .delay = true → 1 ≤ s.delay.n.toNat ∧
    s.delay.n.toNat ≤ s.conf.delayMax ∧ F64.le F64.posZero s.delay.fb = true ∧ F64.lt s.delay.fb F64.one = true)) ∧
  (s.bw.mode.toNat ≤ 3 ∧
    (s.configured .bw = true → 2 ≤ s.bw.s0.coefs.n.toNat ∧ s.bw.s0.coefs.n.toNat % 2 = 0 ∧
      s.bw.s0.coefs.n.toNat ≤ s.conf.bwOrderMax) ∧
    (s.configured .bw = true → s.bw.mode = bwModeBp → 2 ≤ s.bw.s1.coefs.n.toNat ∧ s.bw.s1.coefs.n.toNat % 2 = 0 ∧
      s.bw.s1.coefs.n.toNat ≤ s.conf.bwOrderMax)) ∧
  (s.mem.wf = true ∧ ∀ cell ∈ s.mem, arrayAddr s.conf cell.1 = true) ∧
  (s.busy = true → s.blk.idx < s.blk.n ∧ s.blk.n ≤ s.conf.obufDepth)

/-- The invariant does not look at the host's moves. -/
theorem inv_of_parts (s : State) (h : InvParts s) (moves : List HostMove) : Inv (s.withPort moves) := by
  obtain ⟨conf, ⟨st, ie, bc, ec, cv⟩, ⟨sr, bh, bl⟩, snapshot, ⟨lo, up, derived⟩, bank, ⟨len, dc⟩, ⟨mode, first, second⟩, ⟨wf, range⟩,
    block⟩ := h
  exact {
    conf := conf
    registers := ⟨st, ie, bc, ec, cv⟩
    rates := ⟨sr, bh, bl⟩
    snapshot := snapshot
    ladder := ⟨lo, up, derived⟩
    bank := bank
    delay := ⟨len, dc⟩
    biquad := ⟨mode, first, second⟩
    memory := ⟨wf, range⟩
    block := block }

theorem inv_reset (moves : List HostMove) : Inv (State.reset.withPort moves) :=
  inv_of_parts State.reset (by decide +kernel) moves
theorem inv_ready (moves : List HostMove) : Inv (ready.withPort moves) :=
  inv_of_parts ready (by decide +kernel) moves
theorem inv_running (moves : List HostMove) : Inv (running.withPort moves) :=
  inv_of_parts running (by decide +kernel) moves

/-- `-0`. -/
def nz : Num64 := 0x8000000000000000#64

/-- One move for the host. -/
def alone (s : State) (m : HostMove) : State := s.withPort [m]

theorem witness_StepRunsDecodedCommand :
    let s := alone ready (.write 0x00006#18 0xFFFFFFFF00000371#64)
    s.busy = false ∧ s.port = [.write 0x00006#18 0xFFFFFFFF00000371#64] ∧
      decode (BitVec.setWidth 32 0xFFFFFFFF00000371#64) = .ok (.moogProc true true) := by decide +kernel

theorem witness_IllegalWordExecutesNothing :
    let s := alone ready (.write 0x00006#18 0x0000000000000012#64)
    s.busy = false ∧ s.port = [.write 0x00006#18 0x0000000000000012#64] ∧ ∀ i, encode i ≠ BitVec.setWidth 32 0x0000000000000012#64 := by
  refine ⟨by decide, rfl, fun i => ?_⟩
  cases i <;> first | decide | (rename_i a; revert a; decide) | (rename_i a b; revert a b; decide)

/-- Both branches of the commands that test `CFGVALID`: `ready` has every unit configured, `State.reset` none of these. -/
theorem witness_configured :
    ([.sine, .lp1, .rclp, .rcbp, .moog, .bw, .harm, .delay].all fun u => ready.configured u && !State.reset.configured u) = true ∧
      ([.sine, .lp1, .rclp, .rcbp, .moog, .bw, .harm, .delay].all fun u => !({ ready with cfgvalid := 0x1A#32 }).configured u) = true := by
  decide +kernel

theorem witness_Lp1Commands :
    ((args F64.one z z z z z).arg[0] = F64.one ∧ F64.lt F64.posZero F64.one = true ∧ F64.le F64.one F64.one = true) ∧
      [1#64, c001, p9].all (fun k => F64.lt F64.posZero k && F64.le k F64.one) = true ∧
      [F64.posZero, nz, F64.qNaN, F64.negOne, 0x3FF0000000000001#64].all
        (fun k => !(F64.lt F64.posZero k && F64.le k F64.one)) = true := by
  decide +kernel

theorem witness_SaturatedLadderBounded : ready.configured .moog = true := by decide
theorem witness_BwProcessAndReset :
    ({ ready with bw := { ready.bw with mode := 0 } }).configured .bw = true ∧ ({ ready with bw := { ready.bw with mode := 0 } }).bw.mode ≠ 3#32 ∧
      ready.configured .bw = true ∧ ready.bw.mode = 3#32 ∧ State.reset.configured .bw = false := by decide +kernel

/-- The cause of the first failed check of step 1 of a design, at the reference configuration. -/
def firstFailed (fpass fstop hpass hstop : Num64) : Option (ErrCause × Num64) :=
  ((bwChecks 10 (num 44100) fpass fstop hpass hstop).find? (fun k => !k.1)).map (·.2)

/-- The real order of a design, at the reference configuration. -/
def realOrder (fpass fstop hpass hstop : Num64) : Num64 :=
  bwOrderReal (F64.lt fstop fpass) (tanw 10 (num 44100) fpass) (tanw 10 (num 44100) fstop) (bwEps hpass) (bwEps hstop)

theorem witness_BwDesignSteps_failed :
    firstFailed (num 22050) (num 2000) p9 p1 = some (.bwFpass, num 22050) ∧ firstFailed (num 1000) z p9 p1 = some (.bwFstop, z) ∧
      firstFailed (num 1000) (num 1000) p9 p1 = some (.bwFeq, num 1000) ∧
      firstFailed (num 1000) (num 2000) F64.one p1 = some (.bwHpass, F64.one) ∧
      firstFailed (num 1000) (num 2000) p9 z = some (.bwHstop, z) ∧
      firstFailed 1#64 (num 2000) p9 p1 = some (.bwWarp, 1#64) ∧ firstFailed (num 2000) 1#64 p9 p1 = some (.bwWarp, 1#64) := by
  decide +kernel
theorem witness_BwDesignSteps_order :
    firstFailed (num 1000) (num 1001) p9 p1 = none ∧ F64.isFinite (realOrder (num 1000) (num 1001) p9 p1) = true ∧
      F64.lt (F64.ofNat 64) (realOrder (num 1000) (num 1001) p9 p1) = true ∧
      firstFailed (num 1000) (num 2000) p9 0x0000000000000001#64 = none ∧
      F64.isFinite (realOrder (num 1000) (num 2000) p9 0x0000000000000001#64) = false := by
  decide +kernel
theorem witness_BwDesignSteps_accepted :
    firstFailed (num 2000) (num 1000) p9 p1 = none ∧ F64.isFinite (realOrder (num 2000) (num 1000) p9 p1) = true ∧
      F64.lt (F64.ofNat 64) (realOrder (num 2000) (num 1000) p9 p1) = false := by
  decide +kernel
theorem witness_BwLoopKeepsLastPolePair : 2 ≤ 2 ∧ 2 ≤ 64 := by decide

/-- A wrapper's design at the reference configuration. -/
def wrapDesign (cutoff fstop : Num64) : Except (ErrCause × Num64) BwCoefs :=
  bwDesign referenceConf (num 44100) cutoff fstop 0x3FEE666666666666#64 0x3FA999999999999A#64

theorem witness_BwConfigure_accepted :
    (∃ d, bwDesign referenceConf (num 44100) (num 1000) (num 2000) p9 p1 = .ok d) ∧
      (∃ d, wrapDesign (num 1000) (F64.add (num 1000) (F64.div (num 1000) (num 4))) = .ok d) ∧
      ∃ d, wrapDesign (num 1000) (F64.sub (num 1000) (F64.div (num 1000) (num 4))) = .ok d :=
  ⟨exists_ok (by decide +kernel), exists_ok (by decide +kernel), exists_ok (by decide +kernel)⟩
theorem witness_BwConfigure_failed :
    (∃ c v, bwDesign referenceConf (num 44100) (num 1000) (num 1000) p9 p1 = .error (c, v)) ∧
      (∃ c v, wrapDesign (num 15000) (F64.add (num 15000) (F64.div (num 15000) F64.two)) = .error (c, v)) ∧
      (∃ d, wrapDesign (num 15000) (F64.sub (num 15000) (F64.div (num 15000) F64.two)) = .ok d) ∧
      ∃ c v, wrapDesign (num 1000) (F64.sub (num 1000) (F64.div (num 1000) F64.one)) = .error (c, v) :=
  ⟨exists_error (by decide +kernel), exists_error (by decide +kernel), exists_ok (by decide +kernel), exists_error (by decide +kernel)⟩

theorem witness_HarmConfigure : Machine.Inv ((args (num 5) (num 100) z (num 300) F64.one F64.one).withPort []) :=
  inv_of_parts (args (num 5) (num 100) z (num 300) F64.one F64.one) (by decide +kernel) []
theorem witness_HarmProcessAndReset :
    (Inv (ready.withPort []) ∧ ready.configured .harm = true) ∧ Inv (State.reset.withPort []) ∧ State.reset.configured .harm = false :=
  ⟨⟨inv_ready [], by decide⟩, inv_reset [], by decide⟩

theorem witness_DelayConfigureAndReset :
    [F64.posZero, F64.negOne, F64.qNaN, 0x3FEFFFFFFFFFFFFF#64].all (fun v => !F64.le F64.one v) = true ∧
      [num 65537, F64.posInf].all (fun v => F64.le F64.one v && F64.le (F64.ofNat (referenceConf.delayMax + 1)) v) = true ∧
      [F64.one, num 65536, 0x40EFFFF000000001#64].all
        (fun v => F64.le F64.one v && !F64.le (F64.ofNat (referenceConf.delayMax + 1)) v) = true ∧
      [F64.one, F64.negOne, F64.qNaN].all (fun v => !(F64.le F64.posZero v && F64.lt v F64.one)) = true ∧
      [F64.posZero, nz, 0x3FEFFFFFFFFFFFFF#64].all (fun v => F64.le F64.posZero v && F64.lt v F64.one) = true := by
  decide +kernel

/-- `ready` with its delay line of two samples full. -/
def full : State := { ready with delay := { ready.delay with fifo := [F64.one, F64.half] } }

theorem witness_DelayProcess :
    (ready.configured .delay = true ∧ ready.delay.fifo.length ≠ ready.delay.n.toNat) ∧
      (full.configured .delay = true ∧ full.delay.fifo = F64.one :: [F64.half] ∧ full.delay.fifo.length = full.delay.n.toNat) ∧
      State.reset.configured .delay = false := by decide +kernel
theorem witness_DelaySideChains (sc : SideChain) :
    (ready.configured .delay = true ∧ ready.configured sc.unit = true ∧ ready.delay.fifo.length ≠ ready.delay.n.toNat) ∧
      full.configured .delay = true ∧ full.configured sc.unit = true ∧ full.delay.fifo = F64.one :: [F64.half] ∧
      full.delay.fifo.length = full.delay.n.toNat := by cases sc <;> decide +kernel
theorem witness_BlkRunSetUp_and_SysCommands : State.reset.mem.wf = true ∧ full.mem.wf = true ∧ 0 < full.conf.harmMax := by decide
theorem witness_NotConfiguredExecutesNothing :
    .lp1 ∈ requiredUnits (.delayProcScLp1 true) ∧ ({ ready with cfgvalid := 0x7FB#32 }).configured .lp1 = false ∧
      .delay ∈ requiredUnits (.delayProcScLp1 true) ∧ ({ ready with cfgvalid := 0x3FF#32 }).configured .delay = false := by decide

theorem witness_BusErrorsChangeOnlyTheRecord :
    ((alone ready (.write 0x0000E#18 1#64)).busy = false ∧ (alone ready (.write 0x0000E#18 1#64)).port = [.write 0x0000E#18 1#64] ∧
      locOf ready.conf 0x0000E#18 = none) ∧
      ((alone ready (.read 0x3FFFF#18)).port = [.read 0x3FFFF#18] ∧ locOf ready.conf 0x3FFFF#18 = none) ∧
      (alone ready (.write 0x0000D#18 1#64)).port = [.write 0x0000D#18 1#64] ∧ locOf ready.conf 0x0000D#18 = some .y ∧ Loc.y.access = .ro := by
  decide +kernel

theorem witness_AddressMap : referenceConf.wellFormed = true ∧ (locOf referenceConf 0x00006#18).isSome = true ∧
    (locOf referenceConf 0x30100#18).isSome = true ∧ (locOf referenceConf 0x30101#18).isSome = false := by decide +kernel

theorem witness_HostReadsRegisters :
    let s := alone State.reset (.read (BitVec.ofNat 18 (0x000B0 + 3)))
    let t := alone State.reset (.read (BitVec.ofNat 18 (0x00000 + 0)))
    s.busy = false ∧ s.port = [.read (BitVec.ofNat 18 (0x000B0 + 3))] ∧
      [s.delay.n.setWidth 64, s.delay.fb, (BitVec.ofNat 32 s.delay.fifo.length).setWidth 64, s.delay.cell][3]? = some s.delay.cell ∧
      t.busy = false ∧ t.port = [.read (BitVec.ofNat 18 (0x00000 + 0))] := by decide +kernel

/-- `full` with the read of one word of an array window as the host's next move. -/
def reading (base k : Nat) : State := alone full (.read (BitVec.ofNat 18 (base + k)))

theorem witness_HostReadsArrays :
    Inv ((full.withPort [.read 0x30100#18])) ∧ (reading 0x30000 256).busy = false ∧
      (63 < full.conf.harmMax ∧ (reading 0x01000 63).port = [.read (BitVec.ofNat 18 (0x01000 + 63))]) ∧
      (1023 < full.conf.obufDepth ∧ (reading 0x10000 1023).port = [.read (BitVec.ofNat 18 (0x10000 + 1023))]) ∧
      (65535 < full.conf.delayMax ∧ (reading 0x20000 65535).port = [.read (BitVec.ofNat 18 (0x20000 + 65535))]) ∧
      256 ≤ 2 ^ full.conf.lutBits / 4 ∧ (reading 0x30000 256).port = [.read (BitVec.ofNat 18 (0x30000 + 256))] :=
  ⟨inv_of_parts full (by decide +kernel) _, by decide +kernel⟩

theorem witness_HostWritesRegisters :
    (alone ready (.write 0x00015#18 F64.one)).busy = false ∧
      (alone ready (.write 0x00015#18 F64.one)).port = [.write (BitVec.ofNat 18 (0x00010 + ((5 : Fin 6) : Nat))) F64.one] ∧
      (alone ready (.write 0x00028#18 F64.one)).port = [.write (BitVec.ofNat 18 (0x00020 + ((8 : Fin 9) : Nat))) F64.one] ∧
      [1#64, F64.one].all (fun v => F64.lt F64.posZero v && F64.isFinite v) = true ∧
      [F64.posZero, F64.negOne, F64.posInf, F64.qNaN].all (fun v => !(F64.lt F64.posZero v && F64.isFinite v)) = true ∧
      [1, 1024].all (fun n => BitVec.ofNat 32 n != 0#32 && decide (n ≤ ready.conf.obufDepth)) = true ∧
      [0, 1025].all (fun n => n == 0 || decide (ready.conf.obufDepth < n)) = true := by decide +kernel

theorem witness_StatusAcknowledgeAndInterrupt :
    let s := alone { ready with status := 0x3E#32, ien := 0x20#32 } (.write 0x00001#18 0x3F#64)
    s.busy = false ∧ s.port = [.write 0x00001#18 0x3F#64] ∧ s.irq = true := by decide +kernel

theorem witness_BusyGating :
    (∀ m, (alone running m).busy = true ∧ (alone running m).port = [m]) ∧
      [HostMove.write 0x0001F#18 z, .write 0x00029#18 z, .read 0x00000#18, .read 0x00002#18, .read 0x0001F#18, .read 0x00029#18,
        .waitBlk].all heldWhileBusy = true := ⟨fun _ => ⟨(by decide : running.busy = true), rfl⟩, by decide⟩

theorem witness_ResetValues : (running.withPort [.reset, .idle]).port = .reset :: [.idle] := rfl
theorem witness_ResetMeetsInvariant : referenceConf.wellFormed = true := by decide +kernel
theorem witness_StepKeepsInvariant :
    Inv (running.withPort []) ∧ (running.withPort []).mem.wf = true ∧ ∃ t, step (running.withPort []) = .next t :=
  ⟨inv_running [], rfl, exists_next (by decide +kernel)⟩
theorem witness_canonical_memories : Memory.wf [(0x01000, F64.one)] = true ∧ Memory.wf [(0x01000, F64.posZero)] = false := by decide
/-- Both parts: a step that sets no bit, and the `CMD` write of `LP1.CFG`, which sets bit 2. -/
theorem witness_ConfigurationIsKept :
    let s := alone (args F64.one z z z z z) (.write 0x00006#18 0x22#64)
    ((∀ rest, ready.port ≠ .reset :: rest) ∧ ∃ t, step ready = .next t) ∧
      ((∀ rest, s.port ≠ .reset :: rest) ∧ stepLeaves s (fun t => t.cfgvalid != s.cfgvalid) true = true) ∧
      .sineProc ∉ cfgCommands ∧ .sineProc ≠ Instr.blkRun ∧ ∃ t, exec .sineProc ready = .next t :=
  ⟨⟨fun _ h => (by cases h), exists_next (by decide +kernel)⟩, ⟨fun _ h => (by injection h with h _; cases h), by decide +kernel⟩,
    by decide, by decide, exists_next (by decide +kernel)⟩
theorem witness_CommandsLeaveHostState :
    Inv (ready.withPort []) ∧ (∃ t, exec .blkRun (ready.withPort []) = .next t) ∧ (∃ t, exec .harmProc (ready.withPort []) = .next t) ∧
      0x10000 ≤ 0x10000 ∧ .harmProc ≠ Instr.blkRun ∧ .harmCfg ∈ cfgCommands ++ unitResets ++ [.blkRun, .sysNop, .sysRstAll] :=
  ⟨inv_ready [], exists_next (by decide +kernel), exists_next (by decide +kernel), by decide, by decide, by decide⟩
theorem witness_UnitsWrittenByOwnCommands :
    (∃ t, exec (.delayProcScLp1 true) ready = .next t) ∧ .harm ∉ writtenUnits (.delayProcScLp1 true) ∧
      (∃ t, exec .blkRun ready = .next t) ∧ .lp1 ∉ writtenUnits .blkRun ∧ .delay ∉ writtenUnits .blkRun ∧ .blk ∉ writtenUnits .sysRstAll :=
  ⟨exists_next (by decide +kernel), by decide, exists_next (by decide +kernel), by decide, by decide, by decide⟩
theorem witness_ConfigureIdempotent :
    .harmCfg ∈ cfgCommands ∧ ready.mem.wf = true ∧ ∃ t, exec .harmCfg ready = .next t :=
  ⟨by decide, rfl, exists_next (by decide +kernel)⟩

theorem filterSilent_ready (sc : SideChain) : FilterSilent ready sc := by
  cases sc <;> simp only [FilterSilent, silent] <;> decide +kernel
theorem witness_FilterSilence (sc : SideChain) :
    Inv (ready.withPort []) ∧ ready.configured sc.unit = true ∧ FilterSilent ready sc ∧ silent ready.x :=
  ⟨inv_ready [], by cases sc <;> decide, filterSilent_ready sc, by unfold silent; decide⟩
theorem witness_DelaySilence (sc : SideChain) :
    Inv (ready.withPort []) ∧ ready.configured .delay = true ∧ DelaySilent ready ∧ silent ready.x ∧ ready.configured sc.unit = true ∧
      FilterSilent ready sc :=
  ⟨inv_ready [], by decide, ⟨fun _ h => (List.not_mem_nil h).elim, by unfold silent; decide, by decide⟩, by unfold silent; decide, by cases sc <;> decide,
    filterSilent_ready sc⟩
theorem witness_DelayIsExact :
    let s : State := { ready with delay := ⟨2#32, F64.posZero, [], F64.posZero⟩ }
    s.configured .delay = true ∧ 1 ≤ s.delay.n.toNat ∧ s.delay.fb = F64.posZero ∧ s.delay.fifo = [] ∧
      ∀ x ∈ [F64.one, F64.posZero, F64.negOne, p9], F64.isFinite x = true ∧ x ≠ 0x8000000000000000#64 := by
  refine ⟨by decide, by decide, rfl, rfl, fun x h => ?_⟩
  simp only [List.mem_cons, List.not_mem_nil, or_false] at h
  rcases h with rfl | rfl | rfl | rfl <;> decide

theorem witness_SampleStep : Inv (running.withPort []) ∧ (running.withPort []).busy = true ∧ (running.withPort []).port = [] :=
  ⟨inv_running [], by decide, rfl⟩
theorem witness_BlockTerminates :
    (Inv (running.withPort []) ∧ running.busy = true ∧ HostWaits (running.withPort [])) ∧
      Inv (running.withPort [.waitBlk]) ∧ HostWaits (running.withPort [.waitBlk]) ∧ 0 < running.blk.n - running.blk.idx :=
  ⟨⟨inv_running [], by decide, .inl rfl⟩, inv_running _, .inr ⟨.waitBlk, [], rfl, by decide⟩, by decide⟩
/-- `running` before the last of its two samples: one buffer cell below `BLK_IDX`, one sample left. -/
def halfway : State := { running with blk := ⟨1, 2, running.blk.sat⟩ }

theorem witness_BlockFillsBufferInOrder :
    (Inv (running.withPort []) ∧ running.busy = true ∧ HostWaits (running.withPort []) ∧ 0 < running.blk.n - running.blk.idx ∧
      running.blk.n ≤ 1) ∧
      Inv (halfway.withPort []) ∧ halfway.busy = true ∧ HostWaits (halfway.withPort []) ∧ 0 < halfway.blk.n - halfway.blk.idx ∧
      0 < halfway.blk.idx :=
  ⟨⟨inv_running [], by decide, .inl rfl, by decide, by decide⟩, inv_of_parts halfway (by decide +kernel) [], by decide, .inl rfl,
    by decide, by decide⟩
theorem witness_HostCannotDisturbBlock :
    (alone running (.write 0x00020#18 F64.one)).busy = true ∧
      (∀ rest, (alone running (.write 0x00020#18 F64.one)).port ≠ .reset :: rest) ∧
      ∃ t, step (alone running (.write 0x00020#18 F64.one)) = .next t :=
  ⟨by decide, fun _ h => (by injection h with h _; cases h), exists_next (by decide +kernel)⟩
theorem witness_PulseWidthUnread :
    SameButPulse ready { ready with p := ready.p.set 1 F64.one, ps := ready.ps.set 1 F64.one } ∧ ∃ t, step ready = .next t :=
  ⟨⟨_, _, _, rfl, by decide +kernel⟩, exists_next (by decide +kernel)⟩

theorem value_of_scaled {x : Num64} {q : ℚ} (n : Int) (h : F64.scaled x = n) (hq : (n : ℚ) / 2 ^ 1074 = q) : F64.value x = q := by
  rw [F64.value, h]; exact hq
theorem value_one : F64.value F64.one = 1 := value_of_scaled (2 ^ 1074) (by decide +kernel) (by norm_num)
theorem value_negOne : F64.value F64.negOne = -1 := value_of_scaled (-2 ^ 1074) (by decide +kernel) (by norm_num)
theorem value_two : F64.value F64.two = 2 := value_of_scaled (2 * 2 ^ 1074) (by decide +kernel) (by norm_num)
theorem value_negZero : F64.value nz = 0 := value_of_scaled 0 (by decide +kernel) (by norm_num)

theorem witness_AddRoundsToNearest :
    F64.isFinite 0x7FEFFFFFFFFFFFFF#64 = true ∧ F64.isFinite 0xFFEFFFFFFFFFFFFF#64 = true ∧ F64.isFinite nz = true ∧
      F64.value F64.one + F64.value F64.negOne = 0 ∧ F64.value F64.one - F64.value F64.one = 0 :=
  ⟨by decide, by decide, by decide, by rw [value_one, value_negOne]; norm_num, sub_self _⟩
theorem witness_MulDivRoundToNearest :
    F64.isFinite F64.posZero = true ∧ F64.isFinite 0x7FEFFFFFFFFFFFFF#64 = true ∧ F64.isZero 1#64 = false := by decide +kernel
theorem witness_SpecialOperands :
    F64.isNaN 0x7FF0000000000001#64 = true ∧ (F64.isInf F64.posInf = true ∧ F64.isInf F64.negInf = true) ∧
      (F64.neg F64.posInf ≠ F64.neg F64.negInf ∧ F64.neg F64.posInf = F64.neg F64.posInf) ∧
      [nz, z, 1#64, 0xFFEFFFFFFFFFFFFF#64].all F64.isFinite = true ∧ (F64.isZero nz = true ∧ F64.isZero 1#64 = false) := by
  decide +kernel
theorem witness_ComparisonsAreExact :
    F64.isNaN 0xFFF0000000000001#64 = true ∧ F64.isNaN F64.posInf = false ∧ F64.isNaN nz = false := by decide +kernel
theorem witness_ZeroAndMonotoneRounding :
    (F64.isFinite F64.one = true ∧ F64.isFinite F64.two = true ∧ F64.isFinite nz = true ∧ F64.isZero nz = true) ∧
      F64.value F64.one + F64.value F64.one ≤ F64.value F64.two + F64.value nz ∧
      F64.value F64.one * F64.value F64.one ≤ F64.value F64.two * F64.value F64.two ∧
      F64.value F64.one / F64.value F64.two ≤ F64.value F64.two / F64.value F64.one ∧ F64.isZero F64.two = false := by
  rw [value_one, value_two, value_negZero]
  exact ⟨by decide, by norm_num, by norm_num, by norm_num, by decide⟩
theorem witness_IntegersAndFloorExact :
    (|(2 : Int) ^ 53| ≤ 2 ^ 53 ∧ |(-1 : Int)| ≤ 2 ^ 53 ∧ |(2 : Int) ^ 53 + -1| ≤ 2 ^ 53 ∧ |(2 : Int) ^ 53 * -1| ≤ 2 ^ 53) ∧
      2 ^ 53 ≤ 2 ^ 53 ∧ F64.isFinite 0xBFE0000000000000#64 = true ∧ 0 ≤ F64.value F64.two :=
  ⟨by norm_num, le_rfl, by decide, by rw [value_two]; norm_num⟩
theorem witness_Exp2RoundsToNearest : F64.isFinite 0xC090C80000000000#64 = true ∧ F64.isNaN 0xFFF0000000000001#64 = true := by decide +kernel
theorem witness_Log2RoundsToNearest :
    F64.isZero nz = true ∧ F64.isNaN F64.qNaN = true ∧ F64.lt F64.negInf F64.posZero = true ∧ F64.isFinite 1#64 = true ∧
      F64.lt F64.posZero 1#64 = true := by decide +kernel
theorem witness_SineUnit :
    (F64.isFinite F64.negOne = true ∧ F64.value F64.negOne = F64.floor F64.negOne) ∧ F64.isFinite 0x7FEFFFFFFFFFFFFF#64 = true ∧
      (F64.isFinite F64.posInf = false ∧ F64.isFinite F64.qNaN = false) ∧ 2 ≤ 2 ∧ 0 < 2 ^ 2 / 4 ∧ 255 < 2 ^ 10 / 4 ∧ 511 < 2 * (2 ^ 10 / 4) :=
  ⟨⟨by decide, by rw [value_negOne, show F64.floor F64.negOne = -1 by decide +kernel]; norm_num⟩, by decide, by decide, by decide, by decide,
    by decide, by decide⟩
theorem witness_SineRom : (4 ≤ 4 ∧ 0 ≤ 2 ^ 4 / 4 ∧ 4 ≤ 2 ^ 4 / 4) ∧ 4 ≤ 10 ∧ 256 ≤ 2 ^ 10 / 4 := by decide

end Sys2Proof.Tests
end

/-! PROOF. The reset state of a legal configuration record meets the machine invariant: R7's constraints by name, what each register
holds after reset, and the invariant part by part. -/

namespace Sys2Proof

/-- The constraints of 00_scope.md R7 (with the two bounds of notes/assumptions/14.md) as named propositions. -/
structure Config.Legal (c : Config) : Prop where
  lutBits : 4 ≤ c.lutBits ∧ c.lutBits ≤ 17
  harmMax : 1 ≤ c.harmMax ∧ c.harmMax ≤ 4096
  delayMax : 1 ≤ c.delayMax ∧ c.delayMax ≤ 65536
  obufDepth : 1 ≤ c.obufDepth ∧ c.obufDepth ≤ 65536
  blockLen : 1 ≤ c.blockLen ∧ c.blockLen ≤ c.obufDepth
  srate : F64.isFinite c.srateReset = true ∧ F64.lt F64.posZero c.srateReset = true
  baseHz : F64.isFinite c.baseHzReset = true ∧ F64.lt F64.posZero c.baseHzReset = true
  params : ∀ r ∈ c.paramTable, r.wellFormed = true
  harmRange : F64.le F64.one c.paramTable[6].min = true ∧ F64.le c.paramTable[6].max (F64.ofNat c.harmMax) = true
  dither : F64.isFinite c.ditherAmp = true ∧ F64.le F64.posZero c.ditherAmp = true
  iir3 : F64.isFinite c.iir3Cx = true ∧ F64.isFinite c.iir3Cy1 = true ∧ F64.isFinite c.iir3Cy2 = true ∧
    F64.isFinite c.iir3Amp = true
  bwOrder : 2 ≤ c.bwOrderMax ∧ c.bwOrderMax % 2 = 0 ∧ c.bwOrderMax < 2 ^ 32

/-- The named constraints are the model's Boolean check. -/
theorem Config.wellFormed_iff_legal (c : Config) : c.wellFormed = true ↔ c.Legal := by
  simp only [Config.wellFormed, Bool.and_eq_true, decide_eq_true_eq, List.all_eq_true, Vector.mem_toList_iff]
  constructor
  · rintro ⟨⟨⟨⟨⟨⟨⟨⟨⟨⟨⟨lut, harm⟩, delay⟩, obuf⟩, blk⟩, srate⟩, baseHz⟩, params⟩, range⟩, dither⟩, ⟨⟨cx, cy1⟩, cy2⟩, amp⟩, order⟩
    exact ⟨lut, harm, delay, obuf, blk, srate, baseHz, params, range, dither, ⟨cx, cy1, cy2, amp⟩, order⟩
  · rintro ⟨lut, harm, delay, obuf, blk, srate, baseHz, params, range, dither, ⟨cx, cy1, cy2, amp⟩, order⟩
    exact ⟨⟨⟨⟨⟨⟨⟨⟨⟨⟨⟨lut, harm⟩, delay⟩, obuf⟩, blk⟩, srate⟩, baseHz⟩, params⟩, range⟩, dither⟩, ⟨⟨cx, cy1⟩, cy2⟩, amp⟩, order⟩

/-- A legal parameter range holds its own default (R7). -/
theorem ParamRange.dflt_inRange {r : ParamRange} (h : r.wellFormed = true) :
    F64.le r.min r.dflt = true ∧ F64.le r.dflt r.max = true := by
  simp only [ParamRange.wellFormed, Bool.and_eq_true] at h
  obtain ⟨⟨_, hmin⟩, hmax⟩ := h
  exact ⟨hmin, hmax⟩

end Sys2Proof

namespace Sys2Proof.Machine

/-- `PARAM_TABLE[i].default`, one parameter at a time. -/
@[simp] theorem paramDefaults_getElem (c : Config) (i : Nat) (h : i < 9) : (paramDefaults c)[i] = c.paramTable[i].dflt := by
  simp [paramDefaults]

@[simp] theorem resetState_status (c : Config) : (resetState c).status = 0#32 := rfl
@[simp] theorem resetState_cfgvalid (c : Config) : (resetState c).cfgvalid = 0x1A#32 := rfl
@[simp] theorem resetState_moog_f (c : Config) : (resetState c).moog.f = F64.posZero := rfl

/-- After reset only the three units that `CFGVALID` hardwires to 1 are configured (10_state.md R34, R50). -/
theorem resetState_configured (c : Config) (u : DspUnit) :
    (resetState c).configured u = decide (u ∈ [DspUnit.noise, .dcr, .iir3]) := by
  rw [State.configured, cfgvalidWord, resetState_cfgvalid]
  cases u <;> decide

/-- No block runs after reset (70_reset_and_hazards.md R280). -/
theorem resetState_busy (c : Config) : (resetState c).busy = false := by
  simp [State.busy, State.flagSet]

theorem ratePositive_iff (v : Num64) : ratePositive v = true ↔ F64.lt F64.posZero v = true ∧ F64.isFinite v = true := by
  simp [ratePositive]

theorem blklenValid_iff (c : Config) (v : Word32) : blklenValid c v = true ↔ v.toNat ≠ 0 ∧ v.toNat ≤ c.obufDepth := by
  simp [blklenValid]

theorem resetState_registersLegal (c : Config) : RegistersLegal (resetState c) where
  status := BitVec.zero_and
  ien := BitVec.zero_and
  blkctl := BitVec.zero_and
  errcode := BitVec.zero_and
  cfgvalid := by rw [resetState_cfgvalid]; decide

/-- `BLOCK_LEN` survives its storage in the 32-bit `BLKLEN`, for `OBUF_DEPTH` is at most 65536 (R7). -/
theorem resetState_blklen_toNat {c : Config} (h : c.Legal) : (resetState c).blklen.toNat = c.blockLen := by
  have hlt : c.blockLen < 2 ^ 32 := by
    have hblock := h.blockLen
    have hobuf := h.obufDepth
    omega
  exact (BitVec.toNat_ofNat _ _).trans (Nat.mod_eq_of_lt hlt)

theorem resetState_ratesLegal {c : Config} (h : c.Legal) : RatesLegal (resetState c) where
  srate := (ratePositive_iff _).2 h.srate.symm
  basehz := (ratePositive_iff _).2 h.baseHz.symm
  blklen := by
    rw [blklenValid_iff, resetState_blklen_toNat h]
    exact ⟨Nat.ne_of_gt h.blockLen.1, h.blockLen.2⟩

theorem resetState_snapshotLegal {c : Config} (h : c.Legal) : SnapshotLegal (resetState c) := by
  intro i
  have hps : (resetState c).ps[i] = (c.paramTable[i]).dflt := paramDefaults_getElem c i i.isLt
  rw [hps]
  exact ParamRange.dflt_inRange (h.params _ (Vector.getElem_mem i.isLt))

/-- `MOOG_F` is `+0` and the unit is not configured, so its scalars owe nothing to it yet. -/
theorem resetState_ladderLegal (c : Config) : LadderLegal (resetState c) where
  lower := by rw [resetState_moog_f]; decide
  upper := by rw [resetState_moog_f]; decide
  derived hconf := by simp [resetState_configured] at hconf

theorem resetState_bankLegal {c : Config} (h : c.Legal) : BankLegal (resetState c) := ⟨Nat.le_refl 1, h.harmMax.1⟩

theorem resetState_delayLegal (c : Config) : DelayLegal (resetState c) where
  len := Nat.le_refl 0
  configured hconf := by simp [resetState_configured] at hconf

theorem resetState_biquadLegal (c : Config) : BiquadLegal (resetState c) where
  mode := Nat.zero_le 3
  first hconf := by simp [resetState_configured] at hconf
  second hconf := by simp [resetState_configured] at hconf

theorem resetState_memoryLegal (c : Config) : MemoryLegal (resetState c) where
  wf := resetState_mem_wf c
  inRange _ hcell := absurd hcell List.not_mem_nil

theorem resetState_blockLegal (c : Config) : BlockLegal (resetState c) := fun hbusy =>
  absurd hbusy (by simp [resetState_busy])

/-- Settles O36: R7 supplies the rates, the snapshot and the slot count; the rest are fixed values, and the clauses about a configured
unit or a running block have nothing to say of a machine just reset. -/
theorem resetMeetsInvariant : Obligations.ResetMeetsInvariant := by
  intro c hc
  have hlegal : c.Legal := c.wellFormed_iff_legal.1 hc
  exact {
    conf := hc
    registers := resetState_registersLegal c
    rates := resetState_ratesLegal hlegal
    snapshot := resetState_snapshotLegal hlegal
    ladder := resetState_ladderLegal c
    bank := resetState_bankLegal hlegal
    delay := resetState_delayLegal c
    biquad := resetState_biquadLegal c
    memory := resetState_memoryLegal c
    block := resetState_blockLegal c }

end Sys2Proof.Machine

section
/-! PROOF. Binary64 patterns as numbers: the order of the patterns is the order of the exact values, and `roundMag` is rounding to nearest. -/

namespace Sys2Proof.F64

/-! ### The exact value of a magnitude pattern -/

/-- The exact value of the magnitude pattern `m`, in units of `2^-1074`. -/
def magScale (m : Nat) : Nat := if m < 2 ^ 52 then m else (m % 2 ^ 52 + 2 ^ 52) * 2 ^ (m / 2 ^ 52 - 1)

theorem scaledMag_eq (x : Num64) : scaledMag x = magScale (mag x) := rfl

theorem magScale_subnormal {m : Nat} (h : m < 2 ^ 52) : magScale m = m := if_pos h

@[simp] theorem magScale_zero : magScale 0 = 0 := magScale_subnormal (by norm_num)

theorem magScale_normal (e : Nat) {f : Nat} (h : f < 2 ^ 52) : magScale ((e + 1) * 2 ^ 52 + f) = (2 ^ 52 + f) * 2 ^ e := by
  have hge : ¬ (e + 1) * 2 ^ 52 + f < 2 ^ 52 := by omega
  have hmod : ((e + 1) * 2 ^ 52 + f) % 2 ^ 52 = f := by omega
  have hdiv : ((e + 1) * 2 ^ 52 + f) / 2 ^ 52 - 1 = e := by omega
  rw [magScale, if_neg hge, hmod, hdiv, Nat.add_comm f]

/-- A magnitude pattern is subnormal, or a biased exponent with a fraction. -/
theorem mag_cases (m : Nat) : m < 2 ^ 52 ∨ ∃ e f, f < 2 ^ 52 ∧ m = (e + 1) * 2 ^ 52 + f := by
  rcases Nat.lt_or_ge m (2 ^ 52) with h | h
  · exact .inl h
  · exact .inr ⟨m / 2 ^ 52 - 1, m % 2 ^ 52, by omega, by omega⟩

theorem magScale_strictMono : StrictMono magScale := by
  refine strictMono_nat_of_lt_succ fun m => ?_
  obtain hsub | ⟨e, f, hf, rfl⟩ := mag_cases m
  · rw [magScale_subnormal hsub]
    rcases Nat.lt_or_ge (m + 1) (2 ^ 52) with h | h
    · rw [magScale_subnormal h]; omega
    · obtain rfl : m = 2 ^ 52 - 1 := by omega
      exact (by decide : 2 ^ 52 - 1 < (2 ^ 52 + 0) * 2 ^ 0).trans_eq (magScale_normal 0 (by norm_num)).symm
  · rw [magScale_normal e hf]
    rcases Nat.lt_or_ge (f + 1) (2 ^ 52) with h | h
    · rw [Nat.add_assoc, magScale_normal e h]
      exact Nat.mul_lt_mul_of_pos_right (by omega) (by positivity)
    · obtain rfl : f = 2 ^ 52 - 1 := by omega
      have hnext : (e + 1) * 2 ^ 52 + (2 ^ 52 - 1) + 1 = (e + 1 + 1) * 2 ^ 52 + 0 := by omega
      rw [hnext, magScale_normal (e + 1) (by norm_num), pow_succ]
      have hpos : 0 < 2 ^ e := by positivity
      omega

/-- On the grid of spacing `2^k` lie all values but those below `2^(52+k)`. -/
theorem magScale_grid (m k : Nat) : (∃ j, magScale m = j * 2 ^ k) ∨ (0 < k ∧ magScale m < 2 ^ 52 * 2 ^ k) := by
  rcases Nat.eq_zero_or_pos k with rfl | hk
  · exact .inl ⟨magScale m, by simp⟩
  obtain hsub | ⟨e, f, hf, rfl⟩ := mag_cases m
  · rw [magScale_subnormal hsub]
    exact .inr ⟨hk, hsub.trans_le (Nat.le_mul_of_pos_right _ (by positivity))⟩
  · rw [magScale_normal e hf]
    rcases Nat.lt_or_ge e k with h | h
    · obtain ⟨i, rfl⟩ : ∃ i, k = e + 1 + i := ⟨k - (e + 1), by omega⟩
      refine .inr ⟨hk, ?_⟩
      calc (2 ^ 52 + f) * 2 ^ e < 2 ^ 53 * 2 ^ e := Nat.mul_lt_mul_of_pos_right (by omega) (by positivity)
        _ = 2 ^ 52 * 2 ^ (e + 1) := by ring
        _ ≤ 2 ^ 52 * 2 ^ (e + 1 + i) := Nat.mul_le_mul_left _ (Nat.pow_le_pow_right (by norm_num) (by omega))
    · obtain ⟨i, rfl⟩ : ∃ i, e = k + i := ⟨e - k, by omega⟩
      exact .inl ⟨(2 ^ 52 + f) * 2 ^ i, by rw [pow_add]; ring⟩

/-! ### Comparisons -/

protected theorem lt_iff {a b : Num64} : lt a b = true ↔ isNaN a = false ∧ isNaN b = false ∧ key a < key b := by
  simp [lt, and_assoc]

protected theorem le_iff {a b : Num64} : le a b = true ↔ isNaN a = false ∧ isNaN b = false ∧ key a ≤ key b := by
  simp [le, and_assoc]

protected theorem le_trans {a b c : Num64} (hab : le a b = true) (hbc : le b c = true) : le a c = true := by
  rw [F64.le_iff] at *
  exact ⟨hab.1, hbc.2.1, hab.2.2.trans hbc.2.2⟩

protected theorem le_of_not_lt {a b : Num64} (ha : isNaN a = false) (hb : isNaN b = false) (h : lt a b = false) : le b a = true := by
  rw [Bool.eq_false_iff, Ne, F64.lt_iff] at h
  exact F64.le_iff.2 ⟨hb, ha, not_lt.1 fun hk => h ⟨ha, hb, hk⟩⟩

protected theorem lt_of_not_le {a b : Num64} (ha : isNaN a = false) (hb : isNaN b = false) (h : le a b = false) : lt b a = true := by
  rw [Bool.eq_false_iff, Ne, F64.le_iff] at h
  exact F64.lt_iff.2 ⟨hb, ha, not_le.1 fun hk => h ⟨ha, hb, hk⟩⟩

/-- The order of the keys is the order of the exact values. -/
theorem key_le_key_iff (a b : Num64) : key a ≤ key b ↔ scaled a ≤ scaled b := by
  have hmono : ∀ {m n : Nat}, (m : Int) ≤ n ↔ (magScale m : Int) ≤ magScale n := by
    intro m n
    rw [Nat.cast_le, Nat.cast_le, magScale_strictMono.le_iff_le]
  have hzero : ∀ {m : Nat}, (m : Int) = 0 ↔ (magScale m : Int) = 0 := by
    intro m
    have hm : magScale m = magScale 0 ↔ m = 0 := magScale_strictMono.injective.eq_iff
    rw [magScale_zero] at hm
    omega
  have hm := hmono (m := mag a) (n := mag b)
  have hm' := hmono (m := mag b) (n := mag a)
  have ha := hzero (m := mag a)
  have hb := hzero (m := mag b)
  unfold key scaled
  rw [scaledMag_eq, scaledMag_eq]
  cases neg a <;> cases neg b <;> simp only [if_true, if_false, Bool.false_eq_true] <;> omega

theorem key_lt_key_iff (a b : Num64) : key a < key b ↔ scaled a < scaled b := by
  rw [← not_le, ← not_le, key_le_key_iff]

theorem scaled_le_of_le {a b : Num64} (h : le a b = true) : scaled a ≤ scaled b := by
  rw [F64.le_iff] at h
  exact (key_le_key_iff a b).1 h.2.2

theorem scaled_lt_of_lt {a b : Num64} (h : lt a b = true) : scaled a < scaled b := by
  rw [F64.lt_iff] at h
  exact (key_lt_key_iff a b).1 h.2.2

/-- Not negative: a value with its sign bit clear, or `-0`. -/
theorem le_posZero_iff {x : Num64} : le posZero x = true ↔ isNaN x = false ∧ (neg x = true → mag x = 0) := by
  have hkey : key posZero = 0 := by decide
  rw [F64.le_iff, hkey, key]
  cases neg x <;> simp

theorem lt_posZero_iff {x : Num64} : lt posZero x = true ↔ isNaN x = false ∧ neg x = false ∧ mag x ≠ 0 := by
  have hkey : key posZero = 0 := by decide
  rw [F64.lt_iff, hkey, key]
  cases neg x <;> simp; omega

/-! ### Rounding -/

/-- `roundMag n d` as the rule states it: with quantum `2^k`, the multiple `M` of it nearest to `n / d`, an even one at a tie; the
significand has 53 bits unless the result is subnormal. -/
theorem roundMag_spec (n : Nat) {d : Nat} (hd : 0 < d) :
    ∃ k M, roundMag n d = min (k * 2 ^ 52 + M) infBits ∧ (k = 0 ∨ 2 ^ 52 * (2 ^ k * d) ≤ n) ∧ n < 2 ^ 53 * (2 ^ k * d) ∧
      2 * M * (2 ^ k * d) ≤ 2 * n + 2 ^ k * d ∧ 2 * n ≤ (2 * M + 1) * (2 ^ k * d) ∧
      (2 * M * (2 ^ k * d) = 2 * n + 2 ^ k * d ∨ 2 * n = (2 * M + 1) * (2 ^ k * d) → M % 2 = 0) := by
  have hexp : ∃ k, (if n / d < 2 ^ 53 then 0 else Nat.log2 (n / d) - 52) = k ∧
      (k = 0 ∨ 2 ^ 52 * (2 ^ k * d) ≤ n) ∧ n < 2 ^ 53 * (2 ^ k * d) := by
    split
    · next h =>
      refine ⟨0, rfl, .inl rfl, ?_⟩
      rw [Nat.div_lt_iff_lt_mul hd] at h
      simpa using h
    · next h =>
      have hq : n / d ≠ 0 := by omega
      have hlog : 53 ≤ Nat.log2 (n / d) := (Nat.le_log2 hq).2 (by omega)
      obtain ⟨k, hk⟩ : ∃ k, Nat.log2 (n / d) = 52 + k := ⟨Nat.log2 (n / d) - 52, by omega⟩
      have hlo : 2 ^ (52 + k) ≤ n / d := (Nat.le_log2 hq).1 hk.ge
      have hhi : n / d < 2 ^ (53 + k) := (Nat.log2_lt hq).1 (by omega)
      rw [Nat.le_div_iff_mul_le hd, pow_add, Nat.mul_assoc] at hlo
      rw [Nat.div_lt_iff_lt_mul hd, pow_add, Nat.mul_assoc] at hhi
      exact ⟨k, by omega, .inr hlo, hhi⟩
  obtain ⟨k, hk, hlow, hhigh⟩ := hexp
  have hpos : 0 < 2 ^ k * d := by positivity
  have hdiv := Nat.div_add_mod n (2 ^ k * d)
  have hmod := Nat.mod_lt n hpos
  rw [Nat.mul_comm (2 ^ k * d)] at hdiv
  refine ⟨k, n / (2 ^ k * d) + if 2 ^ k * d < 2 * (n % (2 ^ k * d)) ∨
      (2 ^ k * d = 2 * (n % (2 ^ k * d)) ∧ n / (2 ^ k * d) % 2 = 1) then 1 else 0, ?_, hlow, hhigh, ?_⟩
  · simp only [roundMag, hk, Nat.mul_comm d]
  · generalize n / (2 ^ k * d) = m at *
    generalize n % (2 ^ k * d) = r at *
    generalize 2 ^ k * d = Q at *
    subst hdiv
    split
    · refine ⟨by lia, by lia, by lia⟩
    · refine ⟨by lia, by lia, by lia⟩

/-- The pattern that `roundMag` joins from an exponent `k` and a rounded significand `M` has the value `M * 2^k`, a carry into the next
exponent included. -/
theorem magScale_join {k M : Nat} (hM : M ≤ 2 ^ 53) (hk : k = 0 ∨ 2 ^ 52 ≤ M) : magScale (k * 2 ^ 52 + M) = M * 2 ^ k := by
  rcases Nat.lt_or_ge M (2 ^ 52) with hlow | hnormal
  · obtain rfl : k = 0 := by omega
    simpa using magScale_subnormal hlow
  rcases Nat.eq_or_lt_of_le hM with rfl | hlt
  · have hnext : k * 2 ^ 52 + 2 ^ 53 = (k + 1 + 1) * 2 ^ 52 + 0 := by omega
    rw [hnext, magScale_normal _ (by norm_num), pow_succ]
    ring
  · obtain ⟨f, rfl⟩ : ∃ f, M = 2 ^ 52 + f := ⟨M - 2 ^ 52, by omega⟩
    have hjoin : k * 2 ^ 52 + (2 ^ 52 + f) = (k + 1) * 2 ^ 52 + f := by omega
    rw [hjoin, magScale_normal k (by omega)]

/-- `M` is a significand and `2^k` a quantum to which the real `r` (in units of `2^-1074`) rounds: `r` is at most half a quantum away
from `M * 2^k`, and it has 53 significant bits above the quantum unless that is the least. -/
structure Rounded (r : ℝ) (k M : Nat) : Prop where
  lower : (2 * M - 1) * 2 ^ k ≤ 2 * r
  upper : 2 * r ≤ (2 * M + 1) * 2 ^ k
  normal : k = 0 ∨ 2 ^ 52 * 2 ^ k ≤ r
  nonneg : 0 ≤ r

theorem Rounded.abs_sub_le {r : ℝ} {k M : Nat} (h : Rounded r k M) : |r - M * 2 ^ k| ≤ 2 ^ k / 2 := by
  rw [abs_le]
  constructor <;> linarith [h.lower, h.upper]

/-- No other multiple of the quantum is nearer. -/
theorem Rounded.le_of_multiple {r : ℝ} {k M : Nat} (h : Rounded r k M) (j : Nat) : |r - M * 2 ^ k| ≤ |r - j * 2 ^ k| := by
  have hpos : (0 : ℝ) < 2 ^ k := by positivity
  rcases lt_trichotomy j M with hj | rfl | hj
  · have hstep : ((j : ℝ) + 1) * 2 ^ k ≤ M * 2 ^ k := by
      gcongr
      exact_mod_cast hj
    calc |r - M * 2 ^ k| ≤ 2 ^ k / 2 := h.abs_sub_le
      _ ≤ r - j * 2 ^ k := by linarith [h.lower]
      _ ≤ |r - j * 2 ^ k| := le_abs_self _
  · exact le_rfl
  · have hstep : ((M : ℝ) + 1) * 2 ^ k ≤ j * 2 ^ k := by
      gcongr
      exact_mod_cast hj
    calc |r - M * 2 ^ k| ≤ 2 ^ k / 2 := h.abs_sub_le
      _ ≤ -(r - j * 2 ^ k) := by linarith [h.upper]
      _ ≤ |r - j * 2 ^ k| := neg_le_abs _

/-- No other value of a magnitude pattern is nearer: below `2^(52+k)`, where the values lie denser, `2^(52+k)` itself is nearer. -/
theorem Rounded.le_of_magScale {r : ℝ} {k M : Nat} (h : Rounded r k M) (m : Nat) :
    |r - M * 2 ^ k| ≤ |r - magScale m| := by
  obtain ⟨j, hj⟩ | ⟨hk, hm⟩ := magScale_grid m k
  · rw [hj]
    push_cast
    exact h.le_of_multiple j
  · have hr : 2 ^ 52 * 2 ^ k ≤ r := h.normal.resolve_left hk.ne'
    have hlt : (magScale m : ℝ) < 2 ^ 52 * 2 ^ k := by exact_mod_cast hm
    calc |r - M * 2 ^ k| ≤ |r - (2 ^ 52 : ℕ) * 2 ^ k| := h.le_of_multiple (2 ^ 52)
      _ = r - 2 ^ 52 * 2 ^ k := by
        rw [Nat.cast_pow, Nat.cast_ofNat]
        exact abs_of_nonneg (sub_nonneg.2 hr)
      _ ≤ r - magScale m := by linarith
      _ ≤ |r - magScale m| := le_abs_self _

/-- Nor is a negative one. -/
theorem Rounded.le_of_scaled {r : ℝ} {k M : Nat} (h : Rounded r k M) (y : Num64) : |r - M * 2 ^ k| ≤ |r - scaled y| := by
  unfold scaled
  rw [scaledMag_eq]
  cases neg y
  · simpa using h.le_of_magScale (mag y)
  · have hzero := h.le_of_magScale 0
    have hr := h.nonneg
    have hy : (0 : ℝ) ≤ magScale (mag y) := by positivity
    rw [magScale_zero, Nat.cast_zero, sub_zero, abs_of_nonneg hr] at hzero
    simp only [if_true, Int.cast_neg, Int.cast_natCast, sub_neg_eq_add]
    rw [abs_of_nonneg (by linarith : 0 ≤ r + magScale (mag y))]
    linarith

/-- The significand fits 53 bits but for a carry, and fills them above the least quantum. -/
theorem significand_bounds {n d k M : Nat} (hQ : 0 < 2 ^ k * d) (hlow : k = 0 ∨ 2 ^ 52 * (2 ^ k * d) ≤ n)
    (hhigh : n < 2 ^ 53 * (2 ^ k * d)) (hM : 2 * M * (2 ^ k * d) ≤ 2 * n + 2 ^ k * d)
    (hM' : 2 * n ≤ (2 * M + 1) * (2 ^ k * d)) : M ≤ 2 ^ 53 ∧ (k = 0 ∨ 2 ^ 52 ≤ M) := by
  generalize 2 ^ k * d = Q at *
  constructor
  · by_contra hgt
    have hge : (2 ^ 53 + 1) * Q ≤ M * Q := Nat.mul_le_mul_right Q (by omega)
    lia
  · refine hlow.imp_right fun h => ?_
    by_contra hgt
    have hge : (M + 1) * Q ≤ 2 ^ 52 * Q := Nat.mul_le_mul_right Q (by omega)
    lia

/-- An integer of 53 bits at any scale is its own rounding. -/
theorem magScale_roundMag_scaled {n p : Nat} (hn : n ≤ 2 ^ 53) (hp : p ≤ 1500) :
    roundMag (n * 2 ^ p) 1 < infBits ∧ magScale (roundMag (n * 2 ^ p) 1) = n * 2 ^ p := by
  obtain ⟨k, M, hround, hlow, hhigh, hM, hM', -⟩ := roundMag_spec (n * 2 ^ p) Nat.one_pos
  obtain ⟨hfit, hfull⟩ := significand_bounds (by positivity) hlow hhigh hM hM'
  rw [Nat.mul_one] at hlow hhigh hM hM'
  have hk : k ≤ p + 1 := by
    rcases hlow with rfl | h
    · exact Nat.zero_le _
    have hpow : 2 ^ (52 + k) ≤ 2 ^ (53 + p) := by
      rw [pow_add, pow_add]
      exact h.trans (Nat.mul_le_mul_right _ hn)
    have := (Nat.pow_le_pow_iff_right (by norm_num : 1 < 2)).1 hpow
    omega
  obtain ⟨j, hj⟩ : ∃ j, n * 2 ^ p = j * 2 ^ k := by
    rcases Nat.lt_or_ge p k with h | h
    · obtain rfl : k = p + 1 := by omega
      have hmax : 2 ^ 53 ≤ n := by
        have h53 : 2 ^ 53 * 2 ^ p ≤ n * 2 ^ p := by
          rw [pow_succ] at hlow
          omega
        exact Nat.le_of_mul_le_mul_right h53 (by positivity)
      exact ⟨2 ^ 52, by rw [← hmax.antisymm hn, pow_succ]; ring⟩
    · obtain ⟨i, rfl⟩ := Nat.exists_eq_add_of_le' h
      exact ⟨n * 2 ^ i, by rw [pow_add]; ring⟩
  have hMj : M = j := by
    rw [hj] at hM hM'
    have hQ : 0 < 2 ^ k := by positivity
    generalize 2 ^ k = Q at hM hM' hQ
    rcases lt_trichotomy M j with h | h | h
    · have := Nat.mul_le_mul_right Q h
      lia
    · exact h
    · have := Nat.mul_le_mul_right Q h
      lia
  have hpattern : k * 2 ^ 52 + M < infBits := by
    unfold infBits
    omega
  rw [hround, Nat.min_eq_left hpattern.le]
  exact ⟨hpattern, by rw [magScale_join hfit hfull, hMj, hj]⟩

theorem neg_ofNat (n : Nat) : neg (ofNat n) = false := neg_mk _ (roundMag_lt _ _)

theorem mag_ofNat (n : Nat) : mag (ofNat n) = roundMag (n * 2 ^ 1074) 1 := mag_mk _ (roundMag_lt _ _)

theorem isFinite_ofNat {n : Nat} (hn : n ≤ 2 ^ 53) : isFinite (ofNat n) = true := by
  rw [isFinite, mag_ofNat]
  exact decide_eq_true (magScale_roundMag_scaled hn (by norm_num)).1

theorem scaled_of_nonneg {x : Num64} (h : neg x = false) : scaled x = magScale (mag x) := by
  simp only [scaled, h, Bool.false_eq_true, if_false, scaledMag_eq]

/-- `num(n)` is exact up to `2^53` (00_scope.md R9). -/
theorem scaled_ofNat {n : Nat} (hn : n ≤ 2 ^ 53) : scaled (ofNat n) = n * 2 ^ 1074 := by
  rw [scaled_of_nonneg (neg_ofNat n), mag_ofNat, (magScale_roundMag_scaled hn (by norm_num)).2, Nat.cast_mul, Nat.cast_pow,
    Nat.cast_ofNat]

/-- A power of two has fraction zero. -/
theorem magScale_pow (e : Nat) : magScale ((e + 1) * 2 ^ 52) = 2 ^ (52 + e) := by
  rw [← Nat.add_zero ((e + 1) * 2 ^ 52), magScale_normal e (by norm_num), Nat.add_zero, pow_add]

theorem scaled_one : scaled one = 2 ^ 1074 := by
  have hmag : mag one = (1022 + 1) * 2 ^ 52 := by decide
  rw [scaled_of_nonneg (by decide), hmag, magScale_pow, Nat.cast_pow, Nat.cast_ofNat]

end Sys2Proof.F64
end

section
/-! PROOF. Integer parts within the bounds of the argument, and results that stay non-negative. -/

namespace Sys2Proof.F64

/-! ### Integer parts -/

theorem one_le_floor {x : Num64} (h : le one x = true) : 1 ≤ floor x := by
  have hle := scaled_le_of_le h
  rw [scaled_one] at hle
  rwa [floor, Int.le_ediv_iff_mul_le (by positivity), one_mul]

theorem floor_le_of_le {x : Num64} {n : Nat} (hn : n ≤ 2 ^ 53) (h : le x (ofNat n) = true) : floor x ≤ n := by
  have hle := scaled_le_of_le h
  rw [scaled_ofNat hn] at hle
  rw [floor, ← Int.lt_add_one_iff, Int.ediv_lt_iff_lt_mul (by positivity), add_one_mul]
  exact hle.trans_lt (lt_add_of_pos_right _ (by positivity))

theorem floor_lt_of_lt {x : Num64} {n : Nat} (hn : n ≤ 2 ^ 53) (h : lt x (ofNat n) = true) : floor x < n := by
  have hlt := scaled_lt_of_lt h
  rw [scaled_ofNat hn] at hlt
  rwa [floor, Int.ediv_lt_iff_lt_mul (by positivity)]

theorem neg_eq_msb (x : Num64) : neg x = x.msb := (BitVec.msb_eq_decide x).symm

@[simp] theorem neg_negate (x : Num64) : neg (negate x) = !neg x := by
  rw [neg_eq_msb, neg_eq_msb, negate, BitVec.msb_xor]
  exact Bool.xor_true _

@[simp] theorem mag_negate (x : Num64) : mag (negate x) = mag x := by
  rw [mag, negate, BitVec.toNat_xor, Nat.xor_mod_two_pow]
  exact Nat.xor_zero _

theorem scaled_negate (x : Num64) : scaled (negate x) = -scaled x := by
  rw [scaled, scaled, neg_negate, scaledMag_eq, scaledMag_eq, mag_negate]
  cases neg x <;> simp

theorem ceil_le_of_le {x : Num64} {n : Nat} (hn : n ≤ 2 ^ 53) (h : le x (ofNat n) = true) : ceil x ≤ n := by
  have hle := scaled_le_of_le h
  rw [scaled_ofNat hn] at hle
  have hfloor : -(n : Int) ≤ floor (negate x) := by
    rw [floor, scaled_negate, Int.le_ediv_iff_mul_le (by positivity), neg_mul]
    exact neg_le_neg hle
  rw [ceil]
  omega

/-! ### Signs of results -/

theorem roundMag_zero (d : Nat) : roundMag 0 d = 0 := by
  simp [roundMag]

theorem isNaN_mk {b : Bool} {m : Nat} (h : m ≤ infBits) : isNaN (mk b m) = false := by
  rw [isNaN, mag_mk b (h.trans_lt (by decide))]
  exact decide_eq_false h.not_gt

/-- A joined pattern is not negative when its sign is plus or its magnitude zero. -/
theorem le_posZero_mk {b : Bool} {m : Nat} (h : m ≤ infBits) (hzero : b = true → m = 0) : le posZero (mk b m) = true := by
  have hlt : m < 2 ^ 63 := h.trans_lt (by decide)
  rw [le_posZero_iff, neg_mk b hlt, mag_mk b hlt]
  exact ⟨isNaN_mk h, hzero⟩

/-- A positive number times one that is not negative. -/
theorem le_posZero_mul {a b : Num64} (ha : lt posZero a = true) (hb : le posZero b = true) (hfin : isFinite a = true) :
    le posZero (mul a b) = true := by
  obtain ⟨hNaN, hneg, hmag⟩ := lt_posZero_iff.1 ha
  obtain ⟨hNaN', hneg'⟩ := le_posZero_iff.1 hb
  have hzero : isZero a = false := decide_eq_false hmag
  simp only [mul, hNaN, hNaN', hneg, isInf_eq_false_of_isFinite hfin, hzero, Bool.false_or, Bool.false_eq_true, if_false,
    Bool.false_bne]
  cases hinf : isInf b with
  | true =>
    have hmag' : mag b = infBits := of_decide_eq_true hinf
    have hnz : mag b ≠ 0 := hmag' ▸ (by decide)
    have hzero' : isZero b = false := decide_eq_false hnz
    rw [if_pos rfl, hzero']
    exact le_posZero_mk le_rfl fun hs => absurd (hneg' hs) hnz
  | false =>
    refine le_posZero_mk (roundMag_le _ _) fun hs => ?_
    rw [scaledMag_eq b, hneg' hs, magScale_zero, Nat.mul_zero, roundMag_zero]

/-- A number that is not negative over a positive finite one. -/
theorem le_posZero_div {a b : Num64} (ha : le posZero a = true) (hb : lt posZero b = true) (hfin : isFinite b = true) :
    le posZero (div a b) = true := by
  obtain ⟨hNaN, hneg⟩ := le_posZero_iff.1 ha
  obtain ⟨hNaN', hneg', hmag'⟩ := lt_posZero_iff.1 hb
  have hzero' : isZero b = false := decide_eq_false hmag'
  simp only [div, hNaN, hNaN', hneg', isInf_eq_false_of_isFinite hfin, hzero', Bool.or_false, Bool.false_eq_true, if_false,
    Bool.bne_false]
  split
  · next hinf =>
    have hmag : mag a = infBits := of_decide_eq_true hinf
    exact le_posZero_mk le_rfl fun hs => absurd (hmag.symm.trans (hneg hs)) (by decide)
  · refine le_posZero_mk (roundMag_le _ _) fun hs => ?_
    rw [scaledMag_eq a, hneg hs, magScale_zero, Nat.zero_mul, roundMag_zero]

end Sys2Proof.F64
end

section
/-! PROOF. What a command can do, said once: one constructor per effect, every command's outcome inverted into it. -/

namespace Sys2Proof.Machine

/-- `Effect s i t`: command `i`, given in state `s`, may end in `t`. Either it is rejected and only records an error, or it does the
work of its unit; a constructor names the configuration bit or the accepted validation that the work rests on. -/
inductive Effect (s : State) : Instr → State → Prop
  | rejected (i : Instr) (c : ErrCause) (v : Num64) : Effect s i (recordError c (encode i) v s)
  | sineProc : Effect s .sineProc
      ({ s with sine := (sineProcess s.conf.lutBits s.sine).2 }.writeY (sineProcess s.conf.lutBits s.sine).1)
  | sineCfg : Effect s .sineCfg
      ({ s with sine := { s.sine with freq := arg0 s, inc := F64.div (arg0 s) s.srate } }.markConfigured .sine)
  | sineRst : Effect s .sineRst { s with sine := sineReset s.sine }
  | noiseProc : Effect s .noiseProc ((advanceNoise s).writeY (nextNoise s))
  | filterProc (sc : SideChain) (sat iny : Bool) : Effect s (filterProc sat iny sc)
      ((sideProcess sc sat (inputSample iny s) s).2.writeY (sideProcess sc sat (inputSample iny s) s).1)
  | lp1Cfg (k : Num64) : Effect s .lp1Cfg ({ s with lp1 := { s.lp1 with k := k } }.markConfigured .lp1)
  | lp1Rst : Effect s .lp1Rst { s with lp1 := lp1Reset s.lp1 }
  | dcrRst : Effect s .dcrRst { s with dcr := dcrReset s.dcr }
  | iir3Rst : Effect s .iir3Rst { s with iir3 := iir3Reset s.iir3 }
  | rclpCfg : Effect s .rclpCfg ({ s with rclp := rcSet s.srate s.rclp (arg0 s) }.markConfigured .rclp)
  | rclpRst : Effect s .rclpRst { s with rclp := rcReset s.rclp }
  | rcbpCfg : Effect s .rcbpCfg ({ s with rcbp :=
      { hp := rcSet s.srate s.rcbp.hp (arg0 s), lp := rcSet s.srate s.rcbp.lp (arg1 s) } }.markConfigured .rcbp)
  | rcbpRst : Effect s .rcbpRst { s with rcbp := rcbpReset s.rcbp }
  | moogCfg : Effect s .moogCfg
      ({ s with moog := moogConfigure s.srate s.moog (arg0 s) (arg1 s) }.markConfigured .moog)
  | moogRst : Effect s .moogRst { s with moog := moogReset s.moog }
  | bwCfg {fpass fstop hpass hstop : Num64} {d : BwCoefs} (i : Instr) (mode : Word32) (gain : Num64)
      (command : (i, mode) ∈ [(Instr.bwCfg, bwModeRaw), (.bwCfgLp, bwModeLp), (.bwCfgHp, bwModeHp)])
      (design : bwDesign s.conf s.srate fpass fstop hpass hstop = .ok d) : Effect s i (bwStore mode gain d s)
  | bwCfgBp {cutoff sharpness : Num64} {d : BwCoefs × BwCoefs} (gain : Num64)
      (design : bwBandDesign s.conf s.srate cutoff sharpness = .ok d) : Effect s .bwCfgBp (bwStoreBand gain d s)
  | bwRst : Effect s .bwRst { s with bw := bwReset s.bw }
  | harmCfg : Effect s .harmCfg (harmConfigure (harmArgs s) s)
  | harmProc : Effect s .harmProc ((s.withMem (harmProcess s).2).writeY (harmProcess s).1)
  | harmRst : Effect s .harmRst (harmReset s)
  | delayCfg {len fb : Num64} {n : Nat} (check : delayCheck s.conf.delayMax len fb = .ok n) :
      Effect s .delayCfg ({ s with delay := delayConfigure n fb s.delay }.markConfigured .delay)
  | delayProc (iny : Bool) (configured : s.configured .delay = true) :
      Effect s (.delayProc iny) (delayProcess (inputSample iny s) s)
  | delayProcWith (sc : SideChain) (sat iny : Bool) (configured : s.configured .delay = true) :
      Effect s (delayProcWith sat iny sc) (delayProcessSc sc sat (inputSample iny s) s)
  | delayProcNt (iny : Bool) : Effect s (.delayProcNt iny)
      ({ s with delay := (delayNoTime (inputSample iny s) s.delay).2 }.writeY (delayNoTime (inputSample iny s) s.delay).1)
  | delayRst : Effect s .delayRst { s with delay := delayReset s.delay }
  | blkRun : Effect s .blkRun (blkSetup s)
  | sysNop : Effect s .sysNop s
  | sysRstAll : Effect s .sysRstAll (resetAllHistory s)

/-- A `PROC` has the effect of its run, or is rejected (41_operator_contract_sys.md R121). -/
theorem effect_whenConfigured {u : DspUnit} {i : Instr} {s run : State} (h : s.configured u = true → Effect s i run) :
    Effect s i (whenConfigured u i s run) := by
  obtain ⟨hc, hw⟩ | ⟨-, hw⟩ := whenConfigured_cases u i s run
  · rw [hw]; exact h hc
  · rw [hw]; exact .rejected i _ _

/-- A `CFG` with a validation has the effect of its store, or is rejected (41_operator_contract_sys.md R123). -/
theorem effect_whenValid {α : Type} {i : Instr} {s : State} {checked : Except (ErrCause × Num64) α} {write : α → State}
    (h : ∀ a, checked = .ok a → Effect s i (write a)) : Effect s i (whenValid i s checked write) := by
  obtain ⟨a, ha, hw⟩ | ⟨c, v, -, hw⟩ := whenValid_cases i s checked write
  · rw [hw]; exact h a ha
  · rw [hw]; exact .rejected i _ _

/-- The filter units' `PROC`, whether the unit is always configured or tests its bit. -/
theorem effect_filterProc (sc : SideChain) (sat iny : Bool) (s : State) :
    ∃ t, exec (filterProc sat iny sc) s = .next t ∧ Effect s (filterProc sat iny sc) t := by
  have run := Effect.filterProc (s := s) sc sat iny
  cases sc with
  | dcr | iir3 => exact ⟨_, rfl, run⟩
  | lp1 | rclp | rcbp | moog | bw => exact ⟨_, rfl, effect_whenConfigured fun _ => run⟩

/-- `DELAY.PROC` with a side-chain tests the delay line's bit first, then the side-chain's (60_exceptions.md R253). -/
theorem effect_delayProcWith (sc : SideChain) (sat iny : Bool) (s : State) :
    ∃ t, exec (delayProcWith sat iny sc) s = .next t ∧ Effect s (delayProcWith sat iny sc) t := by
  have run (hc : s.configured .delay = true) := Effect.delayProcWith sc sat iny hc
  cases sc with
  | lp1 | dcr | iir3 | rclp | rcbp | moog | bw =>
    exact ⟨_, rfl, effect_whenConfigured fun hc => effect_whenConfigured fun _ => run hc⟩

/-- Every command completes, with one of the effects above (60_exceptions.md R254). -/
theorem exec_effect (i : Instr) (s : State) : ∃ t, exec i s = .next t ∧ Effect s i t := by
  cases i with
  | sineProc => exact ⟨_, rfl, effect_whenConfigured fun _ => .sineProc⟩
  | sineCfg => exact ⟨_, rfl, .sineCfg⟩
  | sineRst => exact ⟨_, rfl, .sineRst⟩
  | noiseProc => exact ⟨_, rfl, .noiseProc⟩
  | lp1Proc iny => exact effect_filterProc .lp1 false iny s
  | lp1Cfg => exact ⟨_, rfl, effect_whenValid fun k _ => .lp1Cfg k⟩
  | lp1Rst => exact ⟨_, rfl, .lp1Rst⟩
  | dcrProc iny => exact effect_filterProc .dcr false iny s
  | dcrRst => exact ⟨_, rfl, .dcrRst⟩
  | iir3Proc iny => exact effect_filterProc .iir3 false iny s
  | iir3Rst => exact ⟨_, rfl, .iir3Rst⟩
  | rclpProc iny => exact effect_filterProc .rclp false iny s
  | rclpCfg => exact ⟨_, rfl, .rclpCfg⟩
  | rclpRst => exact ⟨_, rfl, .rclpRst⟩
  | rcbpProc iny => exact effect_filterProc .rcbp false iny s
  | rcbpCfg => exact ⟨_, rfl, .rcbpCfg⟩
  | rcbpRst => exact ⟨_, rfl, .rcbpRst⟩
  | moogProc sat iny => exact effect_filterProc .moog sat iny s
  | moogCfg => exact ⟨_, rfl, .moogCfg⟩
  | moogRst => exact ⟨_, rfl, .moogRst⟩
  | bwProc iny => exact effect_filterProc .bw false iny s
  | bwCfg => exact ⟨_, rfl, effect_whenValid fun _ design => .bwCfg _ _ _ (by simp) design⟩
  | bwRst => exact ⟨_, rfl, .bwRst⟩
  | bwCfgLp => exact ⟨_, rfl, effect_whenValid fun _ design => .bwCfg _ _ _ (by simp) design⟩
  | bwCfgHp => exact ⟨_, rfl, effect_whenValid fun _ design => .bwCfg _ _ _ (by simp) design⟩
  | bwCfgBp => exact ⟨_, rfl, effect_whenValid fun _ design => .bwCfgBp _ design⟩
  | harmProc => exact ⟨_, rfl, effect_whenConfigured fun _ => .harmProc⟩
  | harmCfg => exact ⟨_, rfl, .harmCfg⟩
  | harmRst => exact ⟨_, rfl, .harmRst⟩
  | delayProc iny => exact ⟨_, rfl, effect_whenConfigured fun hc => .delayProc iny hc⟩
  | delayProcScLp1 iny => exact effect_delayProcWith .lp1 false iny s
  | delayProcScDcr iny => exact effect_delayProcWith .dcr false iny s
  | delayProcScIir3 iny => exact effect_delayProcWith .iir3 false iny s
  | delayProcScRclp iny => exact effect_delayProcWith .rclp false iny s
  | delayProcScRcbp iny => exact effect_delayProcWith .rcbp false iny s
  | delayProcScMoog sat iny => exact effect_delayProcWith .moog sat iny s
  | delayProcScBw iny => exact effect_delayProcWith .bw false iny s
  | delayCfg => exact ⟨_, rfl, effect_whenValid fun _ check => .delayCfg check⟩
  | delayRst => exact ⟨_, rfl, .delayRst⟩
  | delayProcNt iny => exact ⟨_, rfl, effect_whenConfigured fun _ => .delayProcNt iny⟩
  | blkRun => exact ⟨_, rfl, .blkRun⟩
  | sysNop => exact ⟨_, rfl, .sysNop⟩
  | sysRstAll => exact ⟨_, rfl, .sysRstAll⟩

/-- The inversion of a command's outcome. -/
theorem effect_of_exec {i : Instr} {s t : State} (h : exec i s = .next t) : Effect s i t := by
  obtain ⟨t', hexec, heffect⟩ := exec_effect i s
  obtain rfl : t' = t := Host.Outcome.next.inj (hexec.symm.trans h)
  exact heffect

end Sys2Proof.Machine
end

section
/-! PROOF. The machine invariant, part by part over the data each part speaks of. -/

namespace Sys2Proof.Machine

/-- The reserved and hardwired bits of the control words (`RegistersLegal`). -/
structure ControlLegal (status ien blkctl errcode cfgvalid : Word32) : Prop where
  status : status &&& 0xFFFFFFC0#32 = 0
  ien : ien &&& 0xFFFFFFC1#32 = 0
  blkctl : blkctl &&& 0xFFFFFFFE#32 = 0
  errcode : errcode &&& 0xFFFFFF00#32 = 0
  cfgvalid : cfgvalid &&& 0xFFFFF81A#32 = 0x1A#32

/-- The ladder's scalars belong to its frequency and resonance. -/
def Moog.Derived (u : Moog) : Prop :=
  u.af = F64.sub F64.one u.f ∧ u.sqf = F64.mul u.f u.f ∧
    u.fb = F64.mul u.res (F64.sub F64.one (F64.mul c015 u.sqf))

/-- `LadderLegal`, over the unit and its `CFGVALID` bit. -/
structure Moog.Legal (configured : Bool) (u : Moog) : Prop where
  lower : F64.le F64.posZero u.f = true
  upper : F64.le u.f numPi = true
  derived : configured = true → u.Derived

/-- The settings a configured delay line has. -/
def Delay.InRange (c : Config) (d : Delay) : Prop :=
  1 ≤ d.n.toNat ∧ d.n.toNat ≤ c.delayMax ∧ F64.le F64.posZero d.fb = true ∧ F64.lt d.fb F64.one = true

/-- `DelayLegal`, over the unit and its `CFGVALID` bit. -/
structure Delay.Legal (c : Config) (configured : Bool) (d : Delay) : Prop where
  len : d.len ≤ d.n.toNat
  range : configured = true → d.InRange c

/-- The sections in use hold a design. -/
def Bw.Designed (c : Config) (u : Bw) : Prop :=
  OrderLegal c u.s0.coefs.n ∧ (u.mode = bwModeBp → OrderLegal c u.s1.coefs.n)

/-- `BiquadLegal`, over the unit and its `CFGVALID` bit. -/
structure Bw.Legal (c : Config) (configured : Bool) (u : Bw) : Prop where
  mode : u.mode.toNat ≤ 3
  designed : configured = true → u.Designed c

/-- `MemoryLegal`, over the memory. -/
structure Memory.Legal (c : Config) (m : Memory) : Prop where
  wf : m.wf = true
  inRange : ∀ cell ∈ m, arrayAddr c cell.1 = true

/-- The invariant as a conjunction over the parts of the state it speaks of. A plain conjunction over projections: a state that differs
elsewhere has it by definition, and a proof for an update replaces the one part the update touches. -/
def InvFacts (s : State) : Prop :=
  s.conf.wellFormed = true ∧ ControlLegal s.status s.ien s.blkctl s.errcode s.cfgvalid ∧
  (ratePositive s.srate = true ∧ ratePositive s.basehz = true ∧ blklenValid s.conf s.blklen = true) ∧
  SnapshotLegal s ∧ s.moog.Legal (s.configured .moog) ∧ BankLegal s ∧ s.delay.Legal s.conf (s.configured .delay) ∧
  s.bw.Legal s.conf (s.configured .bw) ∧ s.mem.Legal s.conf ∧ BlockLegal s

theorem inv_iff_facts (s : State) : Inv s ↔ InvFacts s := by
  constructor
  · rintro ⟨conf, ⟨st, ie, bc, ec, cv⟩, ⟨sr, bh, bl⟩, snap, ⟨lo, up, derived⟩, bank, ⟨len, range⟩, ⟨mode, first, second⟩, ⟨wf, rng⟩,
      blk⟩
    exact ⟨conf, ⟨st, ie, bc, ec, cv⟩, ⟨sr, bh, bl⟩, snap, ⟨lo, up, derived⟩, bank, ⟨len, range⟩,
      ⟨mode, fun hc => ⟨first hc, second hc⟩⟩, ⟨wf, rng⟩, blk⟩
  · rintro ⟨conf, ⟨st, ie, bc, ec, cv⟩, ⟨sr, bh, bl⟩, snap, ⟨lo, up, derived⟩, bank, ⟨len, range⟩, ⟨mode, designed⟩, ⟨wf, rng⟩, blk⟩
    exact ⟨conf, ⟨st, ie, bc, ec, cv⟩, ⟨sr, bh, bl⟩, snap, ⟨lo, up, derived⟩, bank, ⟨len, range⟩,
      ⟨mode, fun hc => (designed hc).1, fun hc => (designed hc).2⟩, ⟨wf, rng⟩, blk⟩


/-! ### The flags and the configuration bits -/

theorem configured_eq (s : State) (u : DspUnit) : s.configured u =
    (s.cfgvalid.getLsbD u.code.toNat && (0x7FF#32).getLsbD u.code.toNat || (0x1A#32).getLsbD u.code.toNat) := by
  simp [State.configured, cfgvalidWord]

theorem code_toNat_inj {u v : DspUnit} (h : u.code.toNat = v.code.toNat) : u = v := by
  cases u <;> cases v <;> first | rfl | exact absurd h (by decide)

/-- A `CFG` changes no other unit's configuration bit. -/
theorem configured_markConfigured_of_ne {s : State} {u v : DspUnit} (h : u ≠ v) :
    (s.markConfigured u).configured v = s.configured v := by
  have hcode : u.code.toNat ≠ v.code.toNat := fun hc => h (code_toNat_inj hc)
  rw [configured_eq, configured_eq, markConfigured_cfgvalid, BitVec.getLsbD_or, ← BitVec.twoPow_eq, BitVec.getLsbD_twoPow,
    decide_eq_false hcode]
  simp

theorem busy_recordError (c : ErrCause) (info : Word32) (v : Num64) (s : State) : (recordError c info v s).busy = s.busy := by
  have hbit : c.flag.bit &&& StatusFlag.busy.bit = 0#32 := by cases c <;> decide
  simp only [State.busy, State.flagSet, recordError_status, setFlag]
  rw [BitVec.and_or_distrib_right, hbit, BitVec.or_zero]

theorem and_mask_eq_zero {w m r : Word32} (h : w &&& r = 0) : w &&& m &&& r = 0 := by
  rw [BitVec.and_assoc, BitVec.and_comm m, ← BitVec.and_assoc, h]
  exact BitVec.zero_and

theorem setFlag_reserved {w : Word32} (h : w &&& 0xFFFFFFC0#32 = 0) (f : StatusFlag) : setFlag w f &&& 0xFFFFFFC0#32 = 0 := by
  have hbit : f.bit &&& 0xFFFFFFC0#32 = 0#32 := by cases f <;> decide
  rw [setFlag, BitVec.and_or_distrib_right, h, hbit]
  exact BitVec.or_zero

/-- Recording an error touches `STATUS` and `ERRCODE` within their legal bits and never `BUSY` (60_exceptions.md R252). -/
theorem InvFacts.recordError {s : State} (hs : InvFacts s) (c : ErrCause) (info : Word32) (v : Num64) :
    InvFacts (recordError c info v s) := by
  obtain ⟨conf, control, rates, snap, moog, bank, delay, bw, mem, block⟩ := hs
  have hcode : c.code.setWidth 32 &&& 0xFFFFFF00#32 = 0 := by cases c <;> decide
  refine ⟨conf, { control with status := setFlag_reserved control.status _, errcode := hcode }, rates, snap, moog, bank, delay, bw,
    mem, fun hbusy => ?_⟩
  rw [busy_recordError] at hbusy
  exact block hbusy

/-- Clearing bits of a mask leaves the bits outside it. -/
theorem not_and_mask_of_disjoint {v m b : Word32} (h : m &&& b = 0#32) : ~~~(v &&& m) &&& b = b := by
  ext i hi
  have hbit : (m &&& b)[i] = false := by rw [h]; exact BitVec.getElem_zero hi
  simp only [BitVec.getElem_and, BitVec.getElem_not] at hbit ⊢
  grind

theorem busy_acknowledge (v : Word32) (s : State) : (acknowledge v s).busy = s.busy := by
  have hdisjoint : w1cMask &&& StatusFlag.busy.bit = 0#32 := by decide
  simp only [State.busy, State.flagSet, acknowledge_status, ackFlags]
  rw [BitVec.and_assoc, not_and_mask_of_disjoint hdisjoint]

/-- So does an acknowledgement (60_exceptions.md R255). -/
theorem InvFacts.acknowledge {s : State} (hs : InvFacts s) (v : Word32) : InvFacts (acknowledge v s) := by
  obtain ⟨conf, control, rates, snap, moog, bank, delay, bw, mem, block⟩ := hs
  refine ⟨conf, { control with status := and_mask_eq_zero control.status }, rates, snap, moog, bank, delay, bw, mem, fun hbusy => ?_⟩
  rw [busy_acknowledge] at hbusy
  exact block hbusy

/-- A unit may be marked configured once it meets what the invariant asks of it then. -/
theorem InvFacts.markConfigured {s : State} (hs : InvFacts s) {u : DspUnit} (hu : u ≠ .blk ∧ u ≠ .sys)
    (hmoog : u = .moog → s.moog.Derived) (hdelay : u = .delay → s.delay.InRange s.conf) (hbw : u = .bw → s.bw.Designed s.conf) :
    InvFacts (s.markConfigured u) := by
  obtain ⟨conf, control, rates, snap, moog, bank, delay, bw, mem, block⟩ := hs
  have hbit : 0x1A#32 ||| 1#32 <<< u.code.toNat &&& 0xFFFFF81A#32 = 0x1A#32 := by
    cases u with
    | blk => exact absurd rfl hu.1
    | sys => exact absurd rfl hu.2
    | _ => decide
  refine ⟨conf, { control with cfgvalid := ?_ }, rates, snap, { moog with derived := fun hc => ?_ }, bank,
    { delay with range := fun hc => ?_ }, { bw with designed := fun hc => ?_ }, mem, block⟩
  · rw [markConfigured_cfgvalid, BitVec.and_or_distrib_right, control.cfgvalid, hbit]
  · by_cases h : u = .moog
    · exact hmoog h
    · exact moog.derived (configured_markConfigured_of_ne h ▸ hc)
  · by_cases h : u = .delay
    · exact hdelay h
    · exact delay.range (configured_markConfigured_of_ne h ▸ hc)
  · by_cases h : u = .bw
    · exact hbw h
    · exact bw.designed (configured_markConfigured_of_ne h ▸ hc)

/-- The units of which the invariant asks nothing more once they are configured. -/
theorem InvFacts.markOther {s : State} (hs : InvFacts s) {u : DspUnit} (hu : u ∈ [DspUnit.sine, .lp1, .rclp, .rcbp, .harm]) :
    InvFacts (s.markConfigured u) := by
  have hne (v : DspUnit) (hv : v ∉ [DspUnit.sine, .lp1, .rclp, .rcbp, .harm]) : u ≠ v := fun h => hv (h ▸ hu)
  exact hs.markConfigured ⟨hne _ (by decide), hne _ (by decide)⟩ (fun h => absurd h (hne _ (by decide)))
    (fun h => absurd h (hne _ (by decide))) fun h => absurd h (hne _ (by decide))

/-! ### The ladder -/

/-- The frequency `MOOG.CFG` stores is clamped into `[0, PI]`, NaN included (43_moog.md R170). -/
theorem moogConfigure_legal {srate : Num64} (hs : ratePositive srate = true) (u : Moog) (freqHz res : Num64) (b : Bool) :
    (moogConfigure srate u freqHz res).Legal b := by
  obtain ⟨hpos, hfin⟩ := (ratePositive_iff srate).1 hs
  have hfh : F64.le F64.posZero (if F64.le F64.posZero freqHz then freqHz else F64.posZero) = true := by
    split
    · assumption
    · decide
  have hraw := F64.le_posZero_div (F64.le_posZero_mul (a := numTwoPi) (by decide) hfh (by decide)) hpos hfin
  have hclamp {raw : Num64} (h : F64.le F64.posZero raw = true) :
      F64.le F64.posZero (if F64.lt numPi raw then numPi else raw) = true ∧
        F64.le (if F64.lt numPi raw then numPi else raw) numPi = true := by
    split
    · exact ⟨by decide, by decide⟩
    · next hlt => exact ⟨h, F64.le_of_not_lt (by decide) (F64.not_isNaN_of_le h).2 (Bool.eq_false_iff.2 hlt)⟩
  exact ⟨(hclamp hraw).1, (hclamp hraw).2, fun _ => ⟨rfl, rfl, rfl⟩⟩

theorem moogProcess_legal {b : Bool} {u : Moog} (h : u.Legal b) (sat : Bool) (x : Num64) : (moogProcess sat u x).2.Legal b :=
  ⟨h.lower, h.upper, h.derived⟩

/-! ### The harmonic bank -/

/-- The active count is in `1 .. HARM_MAX`, whatever the operand (45_harmonic.md R200). -/
theorem harmCount_bounds {n : Nat} (hn : 1 ≤ n ∧ n ≤ 2 ^ 53) (v : Num64) : 1 ≤ harmCount n v ∧ harmCount n v ≤ n := by
  unfold harmCount
  split
  · exact ⟨le_rfl, hn.1⟩
  · next hlow =>
    split
    · exact ⟨hn.1, le_rfl⟩
    · next hhigh =>
      simp only [Bool.or_eq_true, not_or, Bool.not_eq_true] at hlow hhigh
      obtain ⟨hNaN, hone⟩ := hlow
      have hlo := F64.one_le_floor (F64.le_of_not_lt hNaN (by decide) hone)
      have hhi := F64.floor_le_of_le hn.2
        (F64.le_of_not_lt (F64.isNaN_eq_false_of_isFinite (F64.isFinite_ofNat hn.2)) hNaN hhigh)
      omega

/-! ### The delay line -/

/-- What an accepted `DELAY.CFG` was given (46_delay.md R217). -/
theorem delayCheck_ok {max n : Nat} {len fb : Num64} (hmax : max < 2 ^ 53) (h : delayCheck max len fb = .ok n) :
    1 ≤ n ∧ n ≤ max ∧ F64.le F64.posZero fb = true ∧ F64.lt fb F64.one = true := by
  unfold delayCheck at h
  split_ifs at h with hlow hhigh hfb
  simp only [Bool.not_eq_true, Bool.not_eq_false, Bool.not_eq_eq_eq_not, Bool.not_true, Bool.and_eq_true]
    at hlow hhigh hfb
  have hNaN := (F64.not_isNaN_of_le hlow).2
  have hlo := F64.one_le_floor hlow
  have hhi := F64.floor_lt_of_lt (n := max + 1) hmax
    (F64.lt_of_not_le (F64.isNaN_eq_false_of_isFinite (F64.isFinite_ofNat hmax)) hNaN hhigh)
  have hn : (F64.floor len).toNat = n := Except.ok.inj h
  exact ⟨by omega, by omega, hfb⟩

theorem delayConfigure_legal {c : Config} (hc : c.Legal) {n : Nat} {len fb : Num64} (h : delayCheck c.delayMax len fb = .ok n)
    (d : Delay) (b : Bool) : (delayConfigure n fb d).Legal c b ∧ (delayConfigure n fb d).InRange c := by
  have hmax := hc.delayMax.2
  obtain ⟨hlo, hhi, hfb⟩ := delayCheck_ok (by omega) h
  have hn : (BitVec.ofNat 32 n).toNat = n := by
    rw [BitVec.toNat_ofNat]
    exact Nat.mod_eq_of_lt (by omega)
  have hrange : (delayConfigure n fb d).InRange c := by
    simp only [delayConfigure, Delay.InRange, hn]
    exact ⟨hlo, hhi, hfb⟩
  refine ⟨⟨?_, fun _ => hrange⟩, hrange⟩
  simp only [delayConfigure, Delay.len, List.length_drop, hn]
  omega

/-- One sample in, and one out when the line is full: the history never outgrows `DELAY_N` (46_delay.md R216, R218). -/
theorem delayPush_legal {c : Config} {b : Bool} {d : Delay} (h : d.Legal c b) (hn : 1 ≤ d.n.toNat) (v : Num64) :
    { d with fifo := fifoPush (delayTake d).2 v }.Legal c b := by
  refine ⟨?_, h.range⟩
  have hlen := h.len
  unfold Delay.len at hlen ⊢
  rw [fifoPush, List.length_append, List.length_singleton]
  by_cases hfull : d.fifo.length = d.n.toNat
  · cases hfifo : d.fifo with
    | nil => simp only [hfifo, List.length_nil] at hfull; omega
    | cons w rest =>
      have hrest : rest.length + 1 = d.n.toNat := by rw [← hfull, hfifo, List.length_cons]
      simp only [delayTake_of_full hfifo hfull]
      omega
  · simp only [delayTake_of_filling hfull]
    omega

theorem delayReset_legal {c : Config} {b : Bool} {d : Delay} (h : d.Legal c b) : (delayReset d).Legal c b :=
  ⟨Nat.zero_le _, h.range⟩

/-! ### The Butterworth sections -/

/-- The order of an accepted design is even, at least 2, and within the configured bound (44_butterworth.md R182, R183). -/
theorem bwOrderEven_bounds {n : Nat} (hn : 2 ≤ n ∧ n % 2 = 0 ∧ n ≤ 2 ^ 53) {nr : Num64} (h : F64.le nr (F64.ofNat n) = true) :
    2 ≤ bwOrderEven nr ∧ bwOrderEven nr % 2 = 0 ∧ bwOrderEven nr ≤ n := by
  have hceil := F64.ceil_le_of_le hn.2.2 h
  unfold bwOrderEven
  simp only
  have hk : (F64.ceil nr).toNat ≤ n := by omega
  generalize (F64.ceil nr).toNat = k at hk
  lia

theorem bwDesign_order {c : Config} (hc : c.Legal) {srate fpass fstop hpass hstop : Num64} {d : BwCoefs}
    (h : bwDesign c srate fpass fstop hpass hstop = .ok d) : OrderLegal c d.n := by
  obtain ⟨hmin, heven, hmax⟩ := hc.bwOrder
  unfold bwDesign at h
  split at h
  · cases h
  simp only at h
  split at h
  · cases h
  next hok =>
  simp only [Bool.or_eq_true, not_or, Bool.not_eq_true, Bool.not_eq_eq_eq_not, Bool.not_true, Bool.not_eq_false] at hok
  obtain ⟨hfin, hle⟩ := hok
  have hbound : c.bwOrderMax ≤ 2 ^ 53 := by omega
  obtain ⟨hlo, hpar, hhi⟩ := bwOrderEven_bounds ⟨hmin, heven, hbound⟩
    (F64.le_of_not_lt (F64.isNaN_eq_false_of_isFinite (F64.isFinite_ofNat hbound)) (F64.isNaN_eq_false_of_isFinite hfin) hle)
  have hd := congrArg (fun e => (e.map BwCoefs.n)) h
  simp only [Except.map, bwBiquad, Except.ok.injEq] at hd
  rw [← hd, OrderLegal, BitVec.toNat_ofNat, Nat.mod_eq_of_lt (by omega)]
  exact ⟨hlo, hpar, hhi⟩

theorem bwBandDesign_order {c : Config} (hc : c.Legal) {srate cutoff sharpness : Num64} {d : BwCoefs × BwCoefs}
    (h : bwBandDesign c srate cutoff sharpness = .ok d) : OrderLegal c d.1.n ∧ OrderLegal c d.2.n := by
  unfold bwBandDesign at h
  split at h
  · cases h
  next hlow =>
  split at h
  · cases h
  next hhigh =>
  cases h
  exact ⟨bwDesign_order hc hlow, bwDesign_order hc hhigh⟩

/-- Neither processing nor reset touches the mode or a design. -/
theorem bwProcess_legal {c : Config} {b : Bool} {u : Bw} (h : u.Legal c b) (x : Num64) : (bwProcess u x).2.Legal c b := by
  unfold bwProcess
  simp only
  split
  · exact ⟨h.mode, h.designed⟩
  · exact ⟨h.mode, h.designed⟩

/-! ### The memory -/

theorem Memory.mem_erase {m : Memory} {a : Nat} {cell : Nat × Num64} (h : cell ∈ m.erase a) : cell ∈ m := by
  induction m with
  | nil => exact h
  | cons c m ih =>
    unfold Memory.erase at h
    split at h
    · exact List.mem_cons_of_mem _ h
    · exact (List.mem_cons.1 h).elim (fun e => e ▸ List.mem_cons_self) fun h => List.mem_cons_of_mem _ (ih h)

theorem Memory.mem_insert {m : Memory} {a : Nat} {v : Num64} {cell : Nat × Num64} (h : cell ∈ m.insert a v) :
    cell ∈ m ∨ cell.1 = a := by
  induction m with
  | nil => exact .inr (by rw [List.mem_singleton.1 h])
  | cons c m ih =>
    unfold Memory.insert at h
    split_ifs at h
    · exact (List.mem_cons.1 h).elim (fun e => .inr (by rw [e])) .inl
    · exact (List.mem_cons.1 h).elim (fun e => .inr (by rw [e])) fun h => .inl (List.mem_cons_of_mem _ h)
    · exact (List.mem_cons.1 h).elim (fun e => .inl (e ▸ List.mem_cons_self)) fun h => (ih h).imp_left (List.mem_cons_of_mem _)

theorem Memory.mem_write {m : Memory} {a : Nat} {v : Num64} {cell : Nat × Num64} (h : cell ∈ m.write a v) :
    cell ∈ m ∨ cell.1 = a := by
  unfold Memory.write at h
  split at h
  · exact .inl (Memory.mem_erase h)
  · exact Memory.mem_insert h

theorem Memory.Legal.write {c : Config} {m : Memory} (h : m.Legal c) {a : Nat} (ha : arrayAddr c a = true) (v : Num64) :
    (m.write a v).Legal c where
  wf := Memory.write_wf a v h.wf
  inRange cell hcell := (Memory.mem_write hcell).elim (h.inRange cell) fun e => e ▸ ha

/-- What a write inside the slots' windows keeps, the filling of `HARM_INC` and `HARM_AMP` keeps. -/
theorem harmFill_induct {P : Memory → Prop} (l : Nat) (finc : Num64) (q : HarmParams) (n h : Nat) (m : Memory)
    (hinc : ∀ k < h + n, ∀ m v, P m → P (m.write (harmIncBase + k) v))
    (hamp : ∀ k < h + n, ∀ m v, P m → P (m.write (harmAmpBase + k) v)) (hm : P m) : P (harmFill l finc q n h m) := by
  induction n generalizing h m with
  | zero => exact hm
  | succ n ih =>
    exact ih _ _ (fun k hk => hinc k (by omega)) (fun k hk => hamp k (by omega))
      (hamp h (by omega) _ _ (hinc h (by omega) _ _ hm))

/-- The same of the advance of `HARM_PHASE`. -/
theorem harmSum_induct {P : Memory → Prop} (l n h : Nat) (m : Memory) (acc : Num64)
    (hphase : ∀ k < h + n, ∀ m v, P m → P (m.write (harmPhaseBase + k) v)) (hm : P m) : P (harmSum l n h m acc).2 := by
  induction n generalizing h m acc with
  | zero => exact hm
  | succ n ih => exact ih _ _ _ (fun k hk => hphase k (by omega)) (hphase h (by omega) _ _ hm)

/-- The same of the zeroing of `HARM_PHASE`. -/
theorem harmClear_induct {P : Memory → Prop} (n h : Nat) (m : Memory)
    (hphase : ∀ k < h + n, ∀ m v, P m → P (m.write (harmPhaseBase + k) v)) (hm : P m) : P (harmClear n h m) := by
  induction n generalizing h m with
  | zero => exact hm
  | succ n ih => exact ih _ _ (fun k hk => hphase k (by omega)) (hphase h (by omega) _ _ hm)

theorem arrayAddr_harmPhase {c : Config} {k : Nat} (h : k < c.harmMax) : arrayAddr c (harmPhaseBase + k) = true := by
  simp [arrayAddr, inWindow, h]

theorem arrayAddr_harmAmp {c : Config} {k : Nat} (h : k < c.harmMax) : arrayAddr c (harmAmpBase + k) = true := by
  simp [arrayAddr, inWindow, h]

theorem arrayAddr_harmInc {c : Config} {k : Nat} (h : k < c.harmMax) : arrayAddr c (harmIncBase + k) = true := by
  simp [arrayAddr, inWindow, h]

theorem arrayAddr_obuf {c : Config} {k : Nat} (h : k < c.obufDepth) : arrayAddr c (obufBase + k) = true := by
  simp [arrayAddr, inWindow, h]

/-! ### The snapshot -/

/-- `CLAMPP` ends in the parameter's range, NaN included (10_state.md R28). -/
theorem clampParam_inRange {r : ParamRange} (h : r.wellFormed = true) (v : Num64) :
    F64.le r.min (clampParam r v) = true ∧ F64.le (clampParam r v) r.max = true := by
  obtain ⟨hmin, hmax⟩ := ParamRange.dflt_inRange h
  have hrange := F64.le_trans hmin hmax
  obtain ⟨hmin', hmax'⟩ := F64.not_isNaN_of_le hrange
  have hself {a : Num64} (ha : F64.isNaN a = false) : F64.le a a = true := F64.le_iff.2 ⟨ha, ha, le_rfl⟩
  unfold clampParam
  split_ifs with hNaN hlow hhigh
  · exact ⟨hmin, hmax⟩
  · exact ⟨hself hmin', hrange⟩
  · exact ⟨hrange, hself hmax'⟩
  · rw [Bool.not_eq_true] at hNaN hlow hhigh
    exact ⟨F64.le_of_not_lt hNaN hmin' hlow, F64.le_of_not_lt hmax' hNaN hhigh⟩

theorem snapshot_getElem (c : Config) (p : Vector Num64 9) (i : Fin 9) :
    (snapshot c p)[i] = clampParam c.paramTable[i] p[i] := by
  fin_cases i <;> rfl

theorem snapshotLegal_snapshot {s : State} (hc : s.conf.Legal) (p : Vector Num64 9) :
    SnapshotLegal { s with ps := snapshot s.conf p } := by
  intro i
  rw [show ({ s with ps := snapshot s.conf p } : State).ps[i] = _ from snapshot_getElem s.conf p i]
  exact clampParam_inRange (hc.params _ (Vector.getElem_mem i.isLt)) _

end Sys2Proof.Machine
end

section
/-! PROOF. Every step keeps the machine invariant: command by command, then the host's moves, the sample step and reset. -/

namespace Sys2Proof.Machine

theorem InvFacts.confLegal {s : State} (hs : InvFacts s) : s.conf.Legal := s.conf.wellFormed_iff_legal.1 hs.1

/-! ### Replacing one part by another that is legal -/

theorem InvFacts.withMoog {s : State} (hs : InvFacts s) {u : Moog} (h : u.Legal (s.configured .moog)) :
    InvFacts { s with moog := u } := by
  obtain ⟨conf, control, rates, snap, -, bank, delay, bw, mem, block⟩ := hs
  exact ⟨conf, control, rates, snap, h, bank, delay, bw, mem, block⟩

theorem InvFacts.withDelay {s : State} (hs : InvFacts s) {u : Delay} (h : u.Legal s.conf (s.configured .delay)) :
    InvFacts { s with delay := u } := by
  obtain ⟨conf, control, rates, snap, moog, bank, -, bw, mem, block⟩ := hs
  exact ⟨conf, control, rates, snap, moog, bank, h, bw, mem, block⟩

theorem InvFacts.withBw {s : State} (hs : InvFacts s) {u : Bw} (h : u.Legal s.conf (s.configured .bw)) :
    InvFacts { s with bw := u } := by
  obtain ⟨conf, control, rates, snap, moog, bank, delay, -, mem, block⟩ := hs
  exact ⟨conf, control, rates, snap, moog, bank, delay, h, mem, block⟩

theorem InvFacts.withMem {s : State} (hs : InvFacts s) {m : Memory} (h : m.Legal s.conf) : InvFacts (s.withMem m) := by
  obtain ⟨conf, control, rates, snap, moog, bank, delay, bw, -, block⟩ := hs
  exact ⟨conf, control, rates, snap, moog, bank, delay, bw, h, block⟩

theorem InvFacts.moogLegal {s : State} (hs : InvFacts s) : s.moog.Legal (s.configured .moog) := by
  obtain ⟨-, -, -, -, moog, -⟩ := hs
  exact moog

theorem InvFacts.bankLegal {s : State} (hs : InvFacts s) : BankLegal s := by
  obtain ⟨-, -, -, -, -, bank, -⟩ := hs
  exact bank

theorem InvFacts.delayLegal {s : State} (hs : InvFacts s) : s.delay.Legal s.conf (s.configured .delay) := by
  obtain ⟨-, -, -, -, -, -, delay, -⟩ := hs
  exact delay

theorem InvFacts.bwLegal {s : State} (hs : InvFacts s) : s.bw.Legal s.conf (s.configured .bw) := by
  obtain ⟨-, -, -, -, -, -, -, bw, -⟩ := hs
  exact bw

theorem InvFacts.memLegal {s : State} (hs : InvFacts s) : s.mem.Legal s.conf := by
  obtain ⟨-, -, -, -, -, -, -, -, mem, -⟩ := hs
  exact mem

theorem InvFacts.ratesLegal {s : State} (hs : InvFacts s) :
    ratePositive s.srate = true ∧ ratePositive s.basehz = true ∧ blklenValid s.conf s.blklen = true := by
  obtain ⟨-, -, rates, -⟩ := hs
  exact rates

theorem InvFacts.blockLegal {s : State} (hs : InvFacts s) : BlockLegal s := by
  obtain ⟨-, -, -, -, -, -, -, -, -, block⟩ := hs
  exact block

/-! ### The units' own work -/

/-- The bank's increments and amplitudes stay in the slots' windows (45_harmonic.md R200). -/
theorem InvFacts.harmConfigure {s : State} (hs : InvFacts s) (q : HarmParams) : InvFacts (harmConfigure q s) := by
  have hmax := hs.confLegal.harmMax
  obtain ⟨hlo, hhi⟩ := harmCount_bounds (n := s.conf.harmMax) ⟨hmax.1, by omega⟩ q.count
  have hcount : (BitVec.ofNat 32 (harmCount s.conf.harmMax q.count)).toNat = harmCount s.conf.harmMax q.count := by
    rw [BitVec.toNat_ofNat]
    exact Nat.mod_eq_of_lt (by omega)
  have hmem : (harmFill s.conf.lutBits (F64.div F64.one s.srate) q (harmCount s.conf.harmMax q.count) 0 s.mem).Legal s.conf :=
    harmFill_induct _ _ _ _ _ _ (fun k hk m v hm => hm.write (arrayAddr_harmInc (by omega)) v)
      (fun k hk m v hm => hm.write (arrayAddr_harmAmp (by omega)) v) hs.memLegal
  refine InvFacts.markOther ?_ (by simp)
  obtain ⟨conf, control, rates, snap, moog, -, delay, bw, -, block⟩ := hs
  refine ⟨conf, control, rates, snap, moog, ?_, delay, bw, hmem, block⟩
  rw [← hcount] at hlo hhi
  exact ⟨hlo, hhi⟩

theorem harmProcess_legal {s : State} (hs : InvFacts s) : (harmProcess s).2.Legal s.conf := by
  have hcount : s.harm.count.toNat ≤ s.conf.harmMax := hs.bankLegal.2
  exact harmSum_induct _ _ _ _ _ (fun k hk m v hm => hm.write (arrayAddr_harmPhase (by omega)) v) hs.memLegal

theorem InvFacts.harmReset {s : State} (hs : InvFacts s) : InvFacts (harmReset s) :=
  hs.withMem (harmClear_induct _ _ _ (fun _ hk _ v hm => hm.write (arrayAddr_harmPhase (by omega)) v) hs.memLegal)

theorem InvFacts.moogConfigure {s : State} (hs : InvFacts s) (freqHz res : Num64) :
    InvFacts ({ s with moog := moogConfigure s.srate s.moog freqHz res }.markConfigured .moog) :=
  (hs.withMoog (moogConfigure_legal hs.ratesLegal.1 s.moog freqHz res _)).markConfigured (by simp)
    (fun _ => ⟨rfl, rfl, rfl⟩) (by simp) (by simp)

/-- A design stored in section 0, in a mode other than `BP`. -/
theorem InvFacts.bwStore {s : State} (hs : InvFacts s) {mode : Word32} (hmode : mode.toNat ≤ 3 ∧ mode ≠ bwModeBp) (gain : Num64)
    {d : BwCoefs} (hd : OrderLegal s.conf d.n) : InvFacts (bwStore mode gain d s) := by
  have hdes : ({ s.bw with mode := mode, gain := gain, s0 := { s.bw.s0 with coefs := d } } : Bw).Designed s.conf :=
    ⟨hd, fun hbp => absurd hbp hmode.2⟩
  exact (hs.withBw ⟨hmode.1, fun _ => hdes⟩).markConfigured (by simp) (by simp) (by simp) fun _ => hdes

theorem InvFacts.bwStoreBand {s : State} (hs : InvFacts s) (gain : Num64) {d : BwCoefs × BwCoefs}
    (hd : OrderLegal s.conf d.1.n ∧ OrderLegal s.conf d.2.n) : InvFacts (bwStoreBand gain d s) := by
  have hdes : ({ mode := bwModeBp, gain := gain, s0 := { s.bw.s0 with coefs := d.1 }, s1 := { s.bw.s1 with coefs := d.2 } }
      : Bw).Designed s.conf := ⟨hd.1, fun _ => hd.2⟩
  have hmode : bwModeBp.toNat ≤ 3 := by decide
  exact (hs.withBw ⟨hmode, fun _ => hdes⟩).markConfigured (by simp) (by simp) (by simp) fun _ => hdes

theorem InvFacts.delayFinish {s : State} (hs : InvFacts s) (hc : s.configured .delay = true) (v : Num64) :
    InvFacts (delayFinish (delayTake s.delay) v s) :=
  hs.withDelay (delayPush_legal hs.delayLegal (hs.delayLegal.range hc).1 v)

theorem InvFacts.resetAllHistory {s : State} (hs : InvFacts s) : InvFacts (resetAllHistory s) := by
  apply InvFacts.harmReset
  obtain ⟨conf, control, rates, snap, moog, bank, delay, bw, mem, block⟩ := hs
  exact ⟨conf, control, rates, snap, ⟨moog.lower, moog.upper, moog.derived⟩, bank, delayReset_legal delay, ⟨bw.mode, bw.designed⟩,
    mem, block⟩

/-- A side-chain keeps what the invariant says of the ladder and of the biquad sections; it says nothing of the other filters. -/
theorem InvFacts.sideProcess {s : State} (hs : InvFacts s) (sc : SideChain) (sat : Bool) (x : Num64) :
    InvFacts (sideProcess sc sat x s).2 := by
  cases sc with
  | lp1 | dcr | iir3 | rclp | rcbp => exact hs
  | moog => exact hs.withMoog (moogProcess_legal hs.moogLegal sat x)
  | bw => exact hs.withBw (bwProcess_legal hs.bwLegal x)

/-- The set-up of a block: snapshot, bank and ladder from it, and an index that starts below a length from `BLKLEN`
(47_block.md R233). -/
theorem InvFacts.blkSetup {s : State} (hs : InvFacts s) : InvFacts (blkSetup s) := by
  have hsnap : InvFacts { s with ps := snapshot s.conf s.p } := by
    have hlegal := snapshotLegal_snapshot hs.confLegal s.p
    obtain ⟨conf, control, rates, -, moog, bank, delay, bw, mem, block⟩ := hs
    exact ⟨conf, control, rates, hlegal, moog, bank, delay, bw, mem, block⟩
  have hlen : s.blklen.toNat ≠ 0 ∧ s.blklen.toNat ≤ s.conf.obufDepth := (blklenValid_iff _ _).1 hs.ratesLegal.2.2
  have hunits := ((hsnap.harmConfigure (blkHarmParams s.basehz (snapshot s.conf s.p))).moogConfigure
    (octaveToHz s.basehz (snapshot s.conf s.p)[4]) (snapshot s.conf s.p)[2])
  obtain ⟨conf, control, rates, snap, moog, bank, delay, bw, mem, -⟩ := hunits
  exact ⟨conf, { control with status := setFlag_reserved control.status .busy }, rates, snap, moog, bank, delay, bw, mem,
    fun _ => ⟨Nat.pos_of_ne_zero hlen.1, hlen.2⟩⟩

theorem busy_blkFinish (s : State) : (blkFinish s).busy = false := by
  have hbusy : ~~~StatusFlag.busy.bit &&& StatusFlag.busy.bit = 0#32 := by decide
  have hdone : StatusFlag.blkDone.bit &&& StatusFlag.busy.bit = 0#32 := by decide
  simp only [State.busy, State.flagSet, blkFinish_status, setFlag, clearFlag]
  rw [BitVec.and_or_distrib_right, hdone, BitVec.and_assoc, hbusy]
  simp

/-- A sample step writes inside the buffer and advances an index that stays below the length, or ends the block
(47_block.md R235, R236). -/
theorem InvFacts.coreStep {s : State} (hs : InvFacts s) (hbusy : s.busy = true) : InvFacts (coreStep s) := by
  obtain ⟨hidx, hn⟩ : s.blk.idx < s.blk.n ∧ s.blk.n ≤ s.conf.obufDepth := hs.blockLegal hbusy
  have hmem := (harmProcess_legal hs).write (arrayAddr_obuf (hidx.trans_le hn)) (sampleValue (nextNoise s) s)
  have hmoog := moogProcess_legal hs.moogLegal s.blk.sat (harmProcess s).1
  obtain ⟨conf, control, rates, snap, -, bank, delay, bw, -, -⟩ := hs
  unfold Machine.coreStep sampleStep
  simp only
  split
  · have hstatus := setFlag_reserved (and_mask_eq_zero (m := ~~~StatusFlag.busy.bit) control.status) .blkDone
    exact ⟨conf, { control with status := hstatus }, rates, snap, hmoog, bank, delay, bw, hmem,
      fun h => absurd h (by rw [busy_blkFinish]; exact Bool.false_ne_true)⟩
  · next hlast => exact ⟨conf, control, rates, snap, hmoog, bank, delay, bw, hmem, fun _ => ⟨Nat.lt_of_le_of_ne hidx hlast, hn⟩⟩

/-! ### Commands -/

/-- Every command keeps the invariant, whatever its effect. -/
theorem Effect.invFacts {s t : State} {i : Instr} (h : Effect s i t) (hs : InvFacts s) : InvFacts t := by
  cases h with
  | rejected => exact hs.recordError _ _ _
  | sineProc | sineRst | noiseProc | lp1Rst | dcrRst | iir3Rst | rclpRst | rcbpRst | sysNop => exact hs
  | sineCfg | lp1Cfg | rclpCfg | rcbpCfg => exact InvFacts.markOther hs (by simp)
  | filterProc sc sat iny => exact hs.sideProcess sc sat _
  | moogCfg => exact hs.moogConfigure _ _
  | moogRst => exact hs.withMoog ⟨hs.moogLegal.lower, hs.moogLegal.upper, hs.moogLegal.derived⟩
  | bwCfg _ mode gain command design =>
    refine hs.bwStore ?_ gain (bwDesign_order hs.confLegal design)
    simp only [List.mem_cons, Prod.mk.injEq, List.not_mem_nil, or_false] at command
    obtain ⟨-, rfl⟩ | ⟨-, rfl⟩ | ⟨-, rfl⟩ := command <;> decide
  | bwCfgBp gain design => exact hs.bwStoreBand gain (bwBandDesign_order hs.confLegal design)
  | bwRst => exact hs.withBw ⟨hs.bwLegal.mode, hs.bwLegal.designed⟩
  | harmCfg => exact hs.harmConfigure _
  | harmProc => exact hs.withMem (harmProcess_legal hs)
  | harmRst => exact hs.harmReset
  | delayCfg check =>
    obtain ⟨hlegal, hrange⟩ := delayConfigure_legal hs.confLegal check s.delay (s.configured .delay)
    exact (hs.withDelay hlegal).markConfigured (by simp) (by simp) (fun _ => hrange) (by simp)
  | delayProc iny hc => exact hs.delayFinish hc _
  | delayProcWith sc sat iny hc =>
    obtain ⟨hdelay, hcfg, -⟩ := sideProcess_frame sc sat (delayTotal s.delay (inputSample iny s)) s
    have hside := hs.sideProcess sc sat (delayTotal s.delay (inputSample iny s))
    have hc' : (sideProcess sc sat (delayTotal s.delay (inputSample iny s)) s).2.configured .delay = true := by
      rw [configured_eq, hcfg, ← configured_eq]
      exact hc
    have hpush := hside.delayFinish hc' (sideProcess sc sat (delayTotal s.delay (inputSample iny s)) s).1
    rw [hdelay] at hpush
    exact hpush
  | delayProcNt => exact hs.withDelay ⟨hs.delayLegal.len, hs.delayLegal.range⟩
  | delayRst => exact hs.withDelay (delayReset_legal hs.delayLegal)
  | blkRun => exact hs.blkSetup
  | sysRstAll => exact hs.resetAllHistory

/-! ### The host's moves -/

/-- A write to a read-write register stores legal bits and legal values only (10_state.md R24, R30 to R33). -/
theorem InvFacts.writeLoc {s : State} (hs : InvFacts s) (a : Addr) (v : Word64) (l : Loc) : InvFacts (writeLoc a v s l) := by
  have ⟨conf, control, ⟨srate, basehz, blklen⟩, snap, moog, bank, delay, bw, mem, block⟩ := hs
  cases l <;> simp only [Machine.writeLoc]
  case ien =>
    refine ⟨conf, { control with ien := ?_ }, ⟨srate, basehz, blklen⟩, snap, moog, bank, delay, bw, mem, block⟩
    rw [BitVec.and_assoc, show 0x3E#32 &&& 0xFFFFFFC1#32 = 0#32 by decide]
    exact BitVec.and_zero
  case blkctl =>
    refine ⟨conf, { control with blkctl := ?_ }, ⟨srate, basehz, blklen⟩, snap, moog, bank, delay, bw, mem, block⟩
    rw [BitVec.and_assoc, show 0x1#32 &&& 0xFFFFFFFE#32 = 0#32 by decide]
    exact BitVec.and_zero
  case srate =>
    split
    · next hv => exact ⟨conf, control, ⟨hv, basehz, blklen⟩, snap, moog, bank, delay, bw, mem, block⟩
    · exact hs.recordError _ _ _
  case basehz =>
    split
    · next hv => exact ⟨conf, control, ⟨srate, hv, blklen⟩, snap, moog, bank, delay, bw, mem, block⟩
    · exact hs.recordError _ _ _
  case blklen =>
    split
    · next hv => exact ⟨conf, control, ⟨srate, basehz, hv⟩, snap, moog, bank, delay, bw, mem, block⟩
    · exact hs.recordError _ _ _
  all_goals exact hs

theorem InvFacts.busWrite {s t : State} (hs : InvFacts s) {a : Addr} {v : Word64} (h : busWrite a v s = .next t) : InvFacts t := by
  obtain ⟨-, hw⟩ | ⟨l, -, hl⟩ := busWrite_cases a v s
  · cases hw.symm.trans h
    exact hs.recordError _ _ _
  obtain ⟨-, hw⟩ | ⟨-, hw⟩ | ⟨-, hw⟩ | ⟨-, hw⟩ := hl
  · cases hw.symm.trans h
    exact hs.recordError _ _ _
  · obtain ⟨i, -, hrun⟩ | ⟨-, hrun⟩ := runCommand_cases (v.setWidth 32) s
    · exact (effect_of_exec (hrun.symm.trans (hw.symm.trans h))).invFacts hs
    · cases hrun.symm.trans (hw.symm.trans h)
      exact hs.recordError _ _ _
  · cases hw.symm.trans h
    exact hs.acknowledge _
  · cases hw.symm.trans h
    exact hs.writeLoc a v l

theorem InvFacts.busRead {s : State} (hs : InvFacts s) (a : Addr) : InvFacts (busRead a s) := by
  obtain ⟨-, hr⟩ | ⟨l, -, hr⟩ := busRead_cases a s
  · rw [hr]; exact hs.recordError .busUnmapped (a.setWidth 32) F64.posZero
  · rw [hr]; exact hs

theorem InvFacts.hardReset {s : State} (hs : InvFacts s) (moves : List HostMove) : InvFacts (hardReset moves s) := by
  have hreset : InvFacts (resetState s.conf) := (inv_iff_facts _).1 (resetMeetsInvariant s.conf hs.1)
  exact hreset

theorem InvFacts.idleMove {s t : State} (hs : InvFacts s) {m : HostMove} (h : idleMove m s = .next t) : InvFacts t := by
  cases m with
  | write a v => exact hs.busWrite h
  | read a => cases h; exact hs.busRead a
  | idle | waitBlk => cases h; exact hs
  | reset => cases h; exact hs.hardReset _

theorem InvFacts.busyMove {s t : State} (hs : InvFacts s) (hbusy : s.busy = true) {m : HostMove} {rest : List HostMove}
    (h : busyMove m rest s = .next t) : InvFacts t := by
  have hrest : InvFacts (s.withPort rest) := hs
  cases m with
  | write a v =>
    simp only [Machine.busyMove] at h
    split at h
    · exact hrest.busWrite h
    · cases h; exact hs.coreStep hbusy
  | read a =>
    simp only [Machine.busyMove] at h
    split at h
    · cases h; exact hrest.busRead a
    · cases h; exact hs.coreStep hbusy
  | idle => cases h; exact hrest.coreStep hbusy
  | waitBlk => cases h; exact hs.coreStep hbusy
  | reset => cases h; exact hs.hardReset _

/-- Settles O37: every kind of step, by the lemma of its kind. -/
theorem stepKeepsInvariant : Obligations.StepKeepsInvariant := by
  intro s t hinv hstep
  rw [inv_iff_facts] at hinv ⊢
  obtain ⟨-, hbusy, hs⟩ | ⟨-, -, hs⟩ | ⟨m, rest, -, hbusy, hs⟩ | ⟨m, rest, -, -, hs⟩ := machineStep_cases s
  · cases hs.symm.trans hstep
    exact hinv.coreStep hbusy
  · cases hs.symm.trans hstep
    exact hinv
  · exact hinv.busyMove hbusy (hs.symm.trans hstep)
  · exact InvFacts.idleMove (s := s.withPort rest) hinv (hs.symm.trans hstep)

end Sys2Proof.Machine
end

section
/-! PROOF. What a command leaves unchanged: the units it does not own, the host's registers and moves, the output buffer, `BUSY`, and the
configuration bits. -/

namespace Sys2Proof.Machine

/-! ### Units -/

/-- The units outside `us` hold in `t` what they hold in `s`. -/
structure KeepsUnits (us : List DspUnit) (s t : State) : Prop where
  sine : .sine ∉ us → t.sine = s.sine
  noise : .noise ∉ us → t.noiseIdx = s.noiseIdx
  lp1 : .lp1 ∉ us → t.lp1 = s.lp1
  dcr : .dcr ∉ us → t.dcr = s.dcr
  iir3 : .iir3 ∉ us → t.iir3 = s.iir3
  rclp : .rclp ∉ us → t.rclp = s.rclp
  rcbp : .rcbp ∉ us → t.rcbp = s.rcbp
  moog : .moog ∉ us → t.moog = s.moog
  bw : .bw ∉ us → t.bw = s.bw
  harm : .harm ∉ us → t.harm = s.harm ∧ t.mem = s.mem
  delay : .delay ∉ us → t.delay = s.delay
  blk : .blk ∉ us → t.ps = s.ps ∧ t.blk = s.blk

theorem writtenUnits_filterProc (sc : SideChain) (sat iny : Bool) : writtenUnits (filterProc sat iny sc) = [sc.unit] := by
  cases sc <;> rfl

theorem writtenUnits_delayProcWith (sc : SideChain) (sat iny : Bool) :
    writtenUnits (delayProcWith sat iny sc) = [.delay, sc.unit] := by
  cases sc <;> rfl

/-- A filter's sample step writes its own unit (46_delay.md R221). -/
theorem sideProcess_keepsUnits (sc : SideChain) (sat : Bool) (x : Num64) (s : State) :
    KeepsUnits [sc.unit] s (sideProcess sc sat x s).2 := by
  cases sc <;> constructor <;> simp [sideProcess, SideChain.unit]

/-- With the delay line around it, the delay line besides (46_delay.md R218). -/
theorem delayProcessSc_keepsUnits (sc : SideChain) (sat : Bool) (x : Num64) (s : State) :
    KeepsUnits [.delay, sc.unit] s (delayProcessSc sc sat x s) := by
  cases sc <;> constructor <;> simp [delayProcessSc, delayFinish, sideProcess, SideChain.unit]

/-- A command writes no unit but those it owns or invokes (10_state.md R51): the two commands that are parametrised by a side-chain by
the lemmas above, the others by what they name. -/
theorem Effect.keepsUnits {s t : State} {i : Instr} (h : Effect s i t) : KeepsUnits (writtenUnits i) s t := by
  cases h with
  | filterProc sc sat iny =>
    rw [writtenUnits_filterProc]
    exact { sideProcess_keepsUnits sc sat (inputSample iny s) s with }
  | delayProcWith sc sat iny =>
    rw [writtenUnits_delayProcWith]
    exact delayProcessSc_keepsUnits sc sat _ s
  | bwCfg _ mode gain command =>
    simp only [List.mem_cons, Prod.mk.injEq, List.not_mem_nil, or_false] at command
    obtain ⟨rfl, -⟩ | ⟨rfl, -⟩ | ⟨rfl, -⟩ := command <;> constructor <;> simp [writtenUnits, bwStore]
  | rejected => constructor <;> intro <;> simp
  | _ =>
    constructor <;>
      simp [writtenUnits, advanceNoise, bwStoreBand, harmConfigure, harmReset, delayProcess, delayFinish, blkSetup, resetAllHistory]

/-- Settles O41, by the effect of the command. -/
theorem unitsWrittenByOwnCommands : Obligations.UnitsWrittenByOwnCommands := by
  intro i s t hexec
  obtain ⟨sine, noise, lp1, dcr, iir3, rclp, rcbp, moog, bw, harm, delay, blk⟩ := (effect_of_exec hexec).keepsUnits
  exact ⟨sine, noise, lp1, dcr, iir3, rclp, rcbp, moog, bw, harm, delay, blk⟩

/-! ### The host's side of the state -/

/-- What only the host writes. -/
structure KeepsHost (s t : State) : Prop where
  conf : t.conf = s.conf
  x : t.x = s.x
  arg : t.arg = s.arg
  p : t.p = s.p
  srate : t.srate = s.srate
  basehz : t.basehz = s.basehz
  blklen : t.blklen = s.blklen
  blkctl : t.blkctl = s.blkctl
  ien : t.ien = s.ien
  port : t.port = s.port
  rdata : t.rdata = s.rdata

theorem sideProcess_keepsHost (sc : SideChain) (sat : Bool) (x : Num64) (s : State) : KeepsHost s (sideProcess sc sat x s).2 := by
  cases sc <;> constructor <;> rfl

theorem Effect.keepsHost {s t : State} {i : Instr} (h : Effect s i t) : KeepsHost s t := by
  cases h with
  | filterProc sc sat iny => exact { sideProcess_keepsHost sc sat (inputSample iny s) s with }
  | delayProcWith sc sat iny => exact { sideProcess_keepsHost sc sat (delayTotal s.delay (inputSample iny s)) s with }
  | _ => constructor <;> rfl

/-! ### The output buffer -/

/-- The memories agree from the output buffer's first address up. -/
def SameOutput (m n : Memory) : Prop := ∀ a, 0x10000 ≤ a → n.read a = m.read a

theorem SameOutput.refl (m : Memory) : SameOutput m m := fun _ _ => rfl

theorem SameOutput.write {m n : Memory} (h : SameOutput m n) {a : Nat} (ha : a < 0x10000) (v : Num64) : SameOutput m (n.write a v) :=
  fun k hk => (Memory.read_write_other v n (by omega)).trans (h k hk)

theorem harmPhase_below {k : Nat} (h : k < 4096) : harmPhaseBase + k < 0x10000 := by unfold harmPhaseBase; omega
theorem harmAmp_below {k : Nat} (h : k < 4096) : harmAmpBase + k < 0x10000 := by unfold harmAmpBase; omega
theorem harmInc_below {k : Nat} (h : k < 4096) : harmIncBase + k < 0x10000 := by unfold harmIncBase; omega

/-- The bank's windows lie below the buffer, for `HARM_MAX` is at most 4096 (00_scope.md R7). -/
theorem harmConfigure_sameOutput {s : State} (hc : s.conf.Legal) (q : HarmParams) : SameOutput s.mem (harmConfigure q s).mem := by
  have hmax := hc.harmMax
  have hcount := (harmCount_bounds (n := s.conf.harmMax) ⟨hmax.1, by omega⟩ q.count).2
  exact harmFill_induct _ _ _ _ _ _ (fun k hk m v hm => hm.write (harmInc_below (by omega)) v)
    (fun k hk m v hm => hm.write (harmAmp_below (by omega)) v) (.refl _)

theorem harmProcess_sameOutput {s : State} (hc : s.conf.Legal) (hbank : BankLegal s) : SameOutput s.mem (harmProcess s).2 := by
  have hmax := hc.harmMax
  have hcount : s.harm.count.toNat ≤ s.conf.harmMax := hbank.2
  exact harmSum_induct _ _ _ _ _ (fun k hk m v hm => hm.write (harmPhase_below (by omega)) v) (.refl _)

theorem harmReset_sameOutput {s : State} (hc : s.conf.Legal) : SameOutput s.mem (harmReset s).mem := by
  have hmax := hc.harmMax
  exact harmClear_induct _ _ _ (fun k hk m v hm => hm.write (harmPhase_below (by omega)) v) (.refl _)

/-- No command writes the output buffer. -/
theorem Effect.sameOutput {s t : State} {i : Instr} (h : Effect s i t) (hc : s.conf.Legal) (hbank : BankLegal s) :
    SameOutput s.mem t.mem := by
  cases h with
  | harmCfg => exact harmConfigure_sameOutput hc _
  | harmProc => exact harmProcess_sameOutput hc hbank
  | harmRst => exact harmReset_sameOutput hc
  | sysRstAll => exact harmReset_sameOutput (s := { s with
      sine := _, lp1 := _, dcr := _, iir3 := _, rclp := _, rcbp := _, moog := _, bw := _, delay := _ }) hc
  | blkRun => exact harmConfigure_sameOutput (s := { s with ps := snapshot s.conf s.p }) hc _
  | filterProc sc =>
    cases sc <;> exact .refl _
  | delayProcWith sc =>
    cases sc <;> exact .refl _
  | _ => exact .refl _

/-! ### `BUSY` and `Y` -/

theorem sideProcess_busy (sc : SideChain) (sat : Bool) (x : Num64) (s : State) : (sideProcess sc sat x s).2.busy = s.busy := by
  cases sc <;> rfl

/-- Only `BLK.RUN` starts a block. -/
theorem Effect.busy {s t : State} {i : Instr} (h : Effect s i t) (hi : i ≠ .blkRun) : t.busy = s.busy := by
  cases h with
  | rejected => exact busy_recordError ..
  | filterProc sc sat iny => exact sideProcess_busy sc sat (inputSample iny s) s
  | delayProcWith sc sat iny => exact sideProcess_busy sc sat (delayTotal s.delay (inputSample iny s)) s
  | blkRun => exact absurd rfl hi
  | _ => rfl

theorem blk_not_mem_writtenUnits {i : Instr} (hi : i ≠ .blkRun) : .blk ∉ writtenUnits i := by
  cases i with
  | blkRun => exact absurd rfl hi
  | _ => simp [writtenUnits]

/-- `Y` is the `PROC` commands' result register. -/
theorem Effect.y {s t : State} {i : Instr} (h : Effect s i t)
    (hi : i ∈ cfgCommands ++ unitResets ++ [.blkRun, .sysNop, .sysRstAll]) : t.y = s.y := by
  cases h with
  | filterProc sc => cases sc <;> simp [cfgCommands, unitResets, Machine.filterProc] at hi
  | delayProcWith sc => cases sc <;> simp [cfgCommands, unitResets, Machine.delayProcWith] at hi
  | sineProc | noiseProc | harmProc | delayProc | delayProcNt => simp [cfgCommands, unitResets] at hi
  | _ => rfl

/-- Settles O40: the host's registers, the buffer, the block state, `BUSY` and `Y`, each by its frame. -/
theorem commandsLeaveHostState : Obligations.CommandsLeaveHostState := by
  intro i s t hinv hexec
  have heffect := effect_of_exec hexec
  obtain ⟨conf, x, arg, p, srate, basehz, blklen, blkctl, ien, port, rdata⟩ := heffect.keepsHost
  have houtput := heffect.sameOutput (s.conf.wellFormed_iff_legal.1 hinv.conf) hinv.bank
  refine ⟨conf, x, arg, p, srate, basehz, blklen, blkctl, ien, port, rdata, houtput, fun hi => ?_, heffect.y⟩
  obtain ⟨hps, hblk⟩ := heffect.keepsUnits.blk (blk_not_mem_writtenUnits hi)
  exact ⟨hps, hblk, heffect.busy hi⟩

end Sys2Proof.Machine
end

section
/-! PROOF. The host's accesses to the named registers: which location an address reaches, what a write to it does, and the two registers
with rules of their own, `STATUS` and `CMD`. -/

namespace Sys2Proof.Machine

/-! ### Which step is taken -/

/-- While no block runs the host's next move takes the step. -/
theorem step_of_idle {s : State} {m : HostMove} {rest : List HostMove} (hbusy : s.busy = false) (hport : s.port = m :: rest) :
    step s = idleMove m (s.withPort rest) := by
  simp [step, machineStep, hport, hbusy]

theorem step_of_busy {s : State} {m : HostMove} {rest : List HostMove} (hbusy : s.busy = true) (hport : s.port = m :: rest) :
    step s = busyMove m rest s := by
  simp [step, machineStep, hport, hbusy]

/-! ### The register map -/

theorem mem_of_lookup {n : Nat} {l : Loc} {regs : List (Nat × Loc)} (h : regs.lookup n = some l) : (n, l) ∈ regs := by
  obtain ⟨before, after, rfl, -⟩ := List.lookup_eq_some_iff.1 h
  simp

/-- A named register is where the list has it, for every one lies below the array windows. -/
theorem locOf_of_lookup {c : Config} {a : Addr} {l : Loc} (h : namedRegs.lookup a.toNat = some l) : locOf c a = some l := by
  have hbelow : ∀ r ∈ namedRegs, r.1 < 0x01000 := by decide
  have hlt : a.toNat < 0x01000 := hbelow (a.toNat, l) (mem_of_lookup h)
  rw [locOf, if_pos hlt, h]

/-- An address reaches a named register or a window of an array, and no array is written through the port. -/
theorem lookup_of_locOf {c : Config} {a : Addr} {l : Loc} (h : locOf c a = some l) :
    namedRegs.lookup a.toNat = some l ∨ l.access = .ro := by
  unfold locOf at h
  simp only at h
  split_ifs at h
  · exact .inl h
  all_goals
    cases h
    exact .inr rfl

/-- `CMD` is the one write-only location (10_state.md R29). -/
theorem eq_cmdAddr_of_access {c : Config} {a : Addr} {l : Loc} (h : locOf c a = some l) (hl : l.access = .wo) : a = cmdAddr := by
  have honly : ∀ r ∈ namedRegs, r.2.access = .wo → r.1 = 6 := by decide
  obtain hlookup | hro := lookup_of_locOf h
  · exact BitVec.eq_of_toNat_eq (honly (a.toNat, l) (mem_of_lookup hlookup) hl)
  · rw [hl] at hro
    cases hro

/-- The addresses of `P[0..8]` reach read-write registers (10_state.md R26). -/
theorem access_of_isParamAddr {c : Config} {a : Addr} (h : isParamAddr a = true) : ∃ l, locOf c a = some l ∧ l.access = .rw := by
  have hmap : ∀ n < 0x29, 0x20 ≤ n → (namedRegs.lookup n).map Loc.access = some .rw := by decide
  obtain ⟨hlo, hhi⟩ := of_decide_eq_true h
  obtain ⟨l, hlookup, hl⟩ := Option.map_eq_some_iff.1 (hmap a.toNat (by omega) hlo)
  exact ⟨l, locOf_of_lookup hlookup, hl⟩

/-! ### Writes -/

theorem busWrite_of_rw {a : Addr} {l : Loc} (v : Word64) {s : State} (h : locOf s.conf a = some l) (hl : l.access = .rw) :
    busWrite a v s = .next (writeLoc a v s l) := by
  simp [busWrite, h, hl]

/-- The host's next move writes a read-write register. -/
theorem step_write_rw {s : State} {a : Addr} {v : Word64} {rest : List HostMove} {l : Loc} (hbusy : s.busy = false)
    (hport : s.port = .write a v :: rest) (h : namedRegs.lookup a.toNat = some l) (hl : l.access = .rw) :
    step s = .next (writeLoc a v (s.withPort rest) l) :=
  (step_of_idle hbusy hport).trans (busWrite_of_rw v (locOf_of_lookup h) hl)

/-- The host's next move writes `STATUS`. -/
theorem step_write_status {s : State} {v : Word64} {rest : List HostMove} (hbusy : s.busy = false)
    (hport : s.port = .write statusAddr v :: rest) :
    step s = .next (acknowledge (v.setWidth 32) (s.withPort rest)) := by
  have hloc : locOf s.conf statusAddr = some .status := locOf_of_lookup (by decide)
  rw [step_of_idle hbusy hport, idleMove, busWrite, withPort_conf, hloc]
  rfl

/-- The host's next move writes `CMD`. -/
theorem step_write_cmd {s : State} {v : Word64} {rest : List HostMove} (hbusy : s.busy = false)
    (hport : s.port = .write cmdAddr v :: rest) : step s = runCommand (v.setWidth 32) (s.withPort rest) := by
  have hloc : locOf s.conf cmdAddr = some .cmd := locOf_of_lookup (by decide)
  rw [step_of_idle hbusy hport, idleMove, busWrite, withPort_conf, hloc]
  rfl

/-- Settles O4: `CMD` takes the low half of the data to the decoder, and a decoded command runs. -/
theorem stepRunsDecodedCommand : Obligations.StepRunsDecodedCommand := by
  intro s v rest i hbusy hport hdecode
  rw [step_write_cmd hbusy hport, runCommand, hdecode]
  rfl

/-- Settles O32: each register by its place in the map; the three with refused values by the check that decides. -/
theorem hostWritesRegisters : Obligations.HostWritesRegisters := by
  intro s v rest hbusy low good refused
  have write {a : Addr} {l : Loc} (hport : s.port = .write a v :: rest) (h : namedRegs.lookup a.toNat = some l)
      (hl : l.access = .rw) : step s = .next (writeLoc a v (s.withPort rest) l) := step_write_rw hbusy hport h hl
  refine ⟨fun i hport => ?arg, fun i hport => ?p, fun hport => ?x, fun hport => ?ien, fun hport => ?blkctl,
    fun hport hgood => ?srate, fun hport hbad => ?srateRefused, fun hport hgood => ?basehz, fun hport hbad => ?basehzRefused,
    fun hport hnz hle => ?blklen, fun hport hbad => ?blklenRefused⟩
  case arg => exact write (l := .arg i) hport (by fin_cases i <;> decide) rfl
  case p => exact write (l := .p i) hport (by fin_cases i <;> decide) rfl
  case x => exact write (l := .x) hport (by decide) rfl
  case ien => exact write (l := .ien) hport (by decide) rfl
  case blkctl => exact write (l := .blkctl) hport (by decide) rfl
  case srate => exact (write (l := .srate) hport (by decide) rfl).trans (congrArg _ (if_pos hgood))
  case srateRefused =>
    exact (write (l := .srate) hport (by decide) rfl).trans (congrArg _ (if_neg (Bool.eq_false_iff.1 hbad)))
  case basehz => exact (write (l := .basehz) hport (by decide) rfl).trans (congrArg _ (if_pos hgood))
  case basehzRefused =>
    exact (write (l := .basehz) hport (by decide) rfl).trans (congrArg _ (if_neg (Bool.eq_false_iff.1 hbad)))
  case blklen =>
    have hvalid : blklenValid s.conf low = true := (blklenValid_iff _ _).2 ⟨fun h => hnz (BitVec.eq_of_toNat_eq h), hle⟩
    exact (write (l := .blklen) hport (by decide) rfl).trans (congrArg _ (if_pos hvalid))
  case blklenRefused =>
    have hvalid : ¬ blklenValid s.conf low = true := by
      rw [blklenValid_iff]
      rintro ⟨hnz, hle⟩
      obtain hzero | hgt := hbad
      · exact hnz (by rw [hzero]; rfl)
      · exact hgt.not_ge hle
    exact (write (l := .blklen) hport (by decide) rfl).trans (congrArg _ (if_neg hvalid))

/-! ### Flags and interrupt -/

theorem getLsbD_w1cMask {k : Nat} (hk : k < 32) : w1cMask.getLsbD k = decide (1 ≤ k ∧ k ≤ 5) := by
  have hall : ∀ k < 32, w1cMask.getLsbD k = decide (1 ≤ k ∧ k ≤ 5) := by decide
  exact hall k hk

/-- An acknowledgement clears a W1C flag where it writes 1 (20_memory.md R62). -/
theorem getLsbD_ackFlags (w v : Word32) {k : Nat} (hk : k < 32) :
    (ackFlags w v).getLsbD k = (w.getLsbD k && !(decide (1 ≤ k ∧ k ≤ 5) && v.getLsbD k)) := by
  rw [ackFlags, BitVec.getLsbD_and, BitVec.getLsbD_not, BitVec.getLsbD_and, getLsbD_w1cMask hk, decide_eq_true hk, Bool.true_and,
    Bool.and_comm (v.getLsbD k)]

/-- `irq` is some W1C flag together with its enable bit (60_exceptions.md R260). -/
theorem irq_iff (s : State) : s.irq = true ↔ ∃ k : Nat, 1 ≤ k ∧ k ≤ 5 ∧ s.status.getLsbD k = true ∧ s.ien.getLsbD k = true := by
  have hbit (k : Nat) (hk : k < 32) : (s.status &&& s.ien &&& w1cMask).getLsbD k = true ↔
      1 ≤ k ∧ k ≤ 5 ∧ s.status.getLsbD k = true ∧ s.ien.getLsbD k = true := by
    rw [BitVec.getLsbD_and, BitVec.getLsbD_and, getLsbD_w1cMask hk]
    simp only [Bool.and_eq_true, decide_eq_true_eq]
    tauto
  have hne : s.irq = true ↔ s.status &&& s.ien &&& w1cMask ≠ 0 := bne_iff_ne
  rw [hne]
  constructor
  · intro h
    by_contra hnone
    refine h (BitVec.eq_of_getLsbD_eq fun k hk => ?_)
    rw [BitVec.ofNat_eq_ofNat, BitVec.getLsbD_zero, Bool.eq_false_iff]
    exact fun hset => hnone ⟨k, (hbit k hk).1 hset⟩
  · rintro ⟨k, hlo, hhi, hset⟩ hzero
    have hk := (hbit k (by omega)).2 ⟨hlo, hhi, hset⟩
    rw [hzero] at hk
    simp at hk

/-- Settles O33. -/
theorem statusAcknowledgeAndInterrupt : Obligations.StatusAcknowledgeAndInterrupt := by
  refine ⟨fun s v rest hbusy hport => ⟨ackFlags s.status (v.setWidth 32), step_write_status hbusy hport, fun k hk => ?_⟩, irq_iff⟩
  rw [getLsbD_ackFlags _ _ hk, BitVec.getLsbD_setWidth, decide_eq_true hk, Bool.true_and]

/-! ### Reset -/

/-- The `rst_n` move resets, block or no block (70_reset_and_hazards.md R280). -/
theorem step_reset {s : State} {rest : List HostMove} (hport : s.port = .reset :: rest) : step s = .next (hardReset rest s) := by
  cases hbusy : s.busy
  · exact step_of_idle hbusy hport
  · exact step_of_busy hbusy hport

theorem resetState_irq (c : Config) : (resetState c).irq = false := by
  rw [State.irq, resetState_status, BitVec.zero_and, BitVec.zero_and]
  rfl

/-- Settles O35. -/
theorem resetValues : Obligations.ResetValues := by
  refine ⟨fun s rest hport => ⟨rest, step_reset hport⟩, fun c => ?_⟩
  have hparam (i : Fin 9) : (paramDefaults c)[i] = c.paramTable[i].dflt := paramDefaults_getElem c i i.isLt
  have harg (i : Fin 6) : (resetState c).arg[i] = F64.posZero := by fin_cases i <;> rfl
  exact ⟨rfl, rfl, rfl, rfl, rfl, rfl, rfl, rfl, rfl, harg, rfl, rfl, rfl, rfl, fun i => ⟨hparam i, hparam i⟩, rfl, rfl, rfl, rfl, rfl,
    rfl, rfl, rfl, rfl, rfl, rfl, rfl, fun _ => rfl, resetState_irq c⟩

end Sys2Proof.Machine
end

section
/-! PROOF. A decoded word is the encoding of its command, and what sets a configuration bit. -/

namespace Sys2Proof

/-! ### Decoding is undone by encoding -/

/-- The flag bits `SAT` and `INY` of a word (30_encoding.md R81): the only bits that a row's mask may leave free (R84, R85). -/
def flagBits (sat iny : Bool) : Word32 :=
  (if sat then BitVec.twoPow 32 8 else 0) ||| if iny then BitVec.twoPow 32 9 else 0

theorem and_flagMask (w : Word32) : w &&& 0x300#32 = flagBits (w.getLsbD 8) (w.getLsbD 9) := by
  rw [show 0x300#32 = BitVec.twoPow 32 8 ||| BitVec.twoPow 32 9 by decide, BitVec.and_or_distrib_left, BitVec.and_twoPow,
    BitVec.and_twoPow]
  rfl

/-- A row is sound when its mask leaves flag bits free only and, however these stand, the command it builds encodes to the word. -/
abbrev OpRow.Sound (r : OpRow) : Prop :=
  ~~~r.mask &&& 0x300#32 = ~~~r.mask ∧
  ∀ sat iny : Bool, flagBits sat iny &&& r.mask = 0 →
    encode (r.build (r.pattern ||| flagBits sat iny)) = r.pattern ||| flagBits sat iny

/-- The 43 rows of 30_encoding.md R88, four settings of the flags each. -/
theorem opRows_sound : ∀ r ∈ opRows, r.Sound := by decide +kernel

theorem OpRow.Sound.encode_build {r : OpRow} (h : r.Sound) {w : Word32} (hw : r.matchesWord w = true) :
    encode (r.build w) = w := by
  obtain ⟨hfree, hflags⟩ := h
  have hpattern : w &&& r.mask = r.pattern := eq_of_beq hw
  have hsub : w &&& ~~~r.mask = flagBits ((w &&& ~~~r.mask).getLsbD 8) ((w &&& ~~~r.mask).getLsbD 9) := by
    rw [← and_flagMask, BitVec.and_assoc, hfree]
  have hdisjoint : w &&& ~~~r.mask &&& r.mask = 0 := by
    rw [BitVec.and_assoc, BitVec.and_comm (~~~r.mask), BitVec.and_not_self]
    exact BitVec.and_zero
  have hsplit : w = r.pattern ||| w &&& ~~~r.mask := by
    rw [← hpattern, ← BitVec.and_or_distrib_left, BitVec.or_not_self, BitVec.and_allOnes]
  have hrow := hflags ((w &&& ~~~r.mask).getLsbD 8) ((w &&& ~~~r.mask).getLsbD 9)
  rw [← hsub, ← hsplit] at hrow
  exact hrow hdisjoint

/-- A legal word is the encoding of the command it decodes to. -/
theorem encode_of_decode {w : Word32} {i : Instr} (h : decode w = .ok i) : encode i = w := by
  unfold decode at h
  split at h
  · next r hfind =>
    cases h
    exact (opRows_sound r (List.mem_of_find?_eq_some hfind)).encode_build (List.find?_some (p := fun r : OpRow => r.matchesWord w) hfind)
  · cases h

end Sys2Proof

namespace Sys2Proof.Machine

/-! ### The configuration bits -/

/-- The commands that may set a configuration bit (10_state.md R34). -/
def setsConfigured (i : Instr) : Prop := i ∈ cfgCommands ∨ i = .blkRun

theorem and_or_self {w m : Word32} : w &&& (w ||| m) = w := by
  ext k hk
  rw [BitVec.getElem_and, BitVec.getElem_or]
  cases w[k] <;> rfl

theorem sideProcess_cfgvalid (sc : SideChain) (sat : Bool) (x : Num64) (s : State) :
    (sideProcess sc sat x s).2.cfgvalid = s.cfgvalid := (sideProcess_frame sc sat x s).2.1

/-- A command sets bits of `CFGVALID` or leaves it; only a `CFG` and `BLK.RUN` set one. -/
theorem Effect.cfgvalid {s t : State} {i : Instr} (h : Effect s i t) :
    t.cfgvalid = s.cfgvalid ∨ (setsConfigured i ∧ ∃ m, t.cfgvalid = s.cfgvalid ||| m) := by
  cases h with
  | sineCfg | lp1Cfg | rclpCfg | rcbpCfg | moogCfg | bwCfgBp | harmCfg | delayCfg =>
    exact .inr ⟨.inl (by simp [cfgCommands]), _, rfl⟩
  | bwCfg i mode gain command =>
    simp only [List.mem_cons, Prod.mk.injEq, List.not_mem_nil, or_false] at command
    refine .inr ⟨.inl ?_, _, rfl⟩
    obtain ⟨rfl, -⟩ | ⟨rfl, -⟩ | ⟨rfl, -⟩ := command <;> simp [cfgCommands]
  | blkRun => exact .inr ⟨.inr rfl, _, BitVec.or_assoc ..⟩
  | filterProc sc sat iny => exact .inl (sideProcess_cfgvalid sc sat (inputSample iny s) s)
  | delayProcWith sc sat iny => exact .inl (sideProcess_cfgvalid sc sat (delayTotal s.delay (inputSample iny s)) s)
  | _ => exact .inl rfl

theorem coreStep_cfgvalid (s : State) : (coreStep s).cfgvalid = s.cfgvalid := by
  unfold coreStep sampleStep
  simp only
  split <;> rfl

theorem writeLoc_cfgvalid (a : Addr) (v : Word64) (s : State) (l : Loc) : (writeLoc a v s l).cfgvalid = s.cfgvalid := by
  cases l <;> simp only [writeLoc]
  case srate | basehz | blklen => split <;> rfl

theorem busRead_cfgvalid (a : Addr) (s : State) : (busRead a s).cfgvalid = s.cfgvalid := by
  obtain ⟨-, hr⟩ | ⟨l, -, hr⟩ := busRead_cases a s
  · rw [hr]; rfl
  · rw [hr]; rfl

/-- A bus write leaves `CFGVALID` as it is, or it is a `CMD` write of a legal word. -/
theorem busWrite_cfgvalid {a : Addr} {v : Word64} {s t : State} (h : busWrite a v s = .next t) :
    t.cfgvalid = s.cfgvalid ∨ ∃ i, a = cmdAddr ∧ encode i = v.setWidth 32 ∧ exec i s = .next t := by
  obtain ⟨-, hw⟩ | ⟨l, hloc, hl⟩ := busWrite_cases a v s
  · cases hw.symm.trans h
    exact .inl rfl
  obtain ⟨-, hw⟩ | ⟨hwo, hw⟩ | ⟨-, hw⟩ | ⟨-, hw⟩ := hl
  · cases hw.symm.trans h
    exact .inl rfl
  · obtain ⟨i, hdecode, hrun⟩ | ⟨-, hrun⟩ := runCommand_cases (v.setWidth 32) s
    · exact .inr ⟨i, eq_cmdAddr_of_access hloc hwo, encode_of_decode hdecode, hrun.symm.trans (hw.symm.trans h)⟩
    · cases hrun.symm.trans (hw.symm.trans h)
      exact .inl rfl
  · cases hw.symm.trans h
    exact .inl rfl
  · cases hw.symm.trans h
    exact .inl (writeLoc_cfgvalid a v s l)

/-- While a block runs no host move but reset touches `CFGVALID`: `CMD` is held (20_memory.md R74). -/
theorem busyMove_cfgvalid {s t : State} {m : HostMove} {rest : List HostMove} (hm : m ≠ .reset) (h : busyMove m rest s = .next t) :
    t.cfgvalid = s.cfgvalid := by
  cases m with
  | write a v =>
    simp only [busyMove] at h
    split at h
    · next hparam =>
      obtain ⟨l, hloc, hl⟩ := access_of_isParamAddr hparam
      cases (busWrite_of_rw v (s := s.withPort rest) hloc hl).symm.trans h
      exact writeLoc_cfgvalid a v _ l
    · cases h; exact coreStep_cfgvalid s
  | read a =>
    simp only [busyMove] at h
    split at h
    · cases h; exact busRead_cfgvalid a _
    · cases h; exact coreStep_cfgvalid s
  | idle => cases h; exact coreStep_cfgvalid _
  | waitBlk => cases h; exact coreStep_cfgvalid s
  | reset => exact absurd rfl hm

/-- What one step short of reset does to `CFGVALID`. -/
theorem step_cfgvalid {s t : State} (hreset : ∀ rest, s.port ≠ .reset :: rest) (h : step s = .next t) :
    t.cfgvalid = s.cfgvalid ∨ (s.busy = false ∧ ∃ (v : Word64) (rest : List HostMove) (i : Instr),
      s.port = .write cmdAddr v :: rest ∧ encode i = v.setWidth 32 ∧ exec i (s.withPort rest) = .next t) := by
  obtain ⟨-, -, hs⟩ | ⟨-, -, hs⟩ | ⟨m, rest, hport, -, hs⟩ | ⟨m, rest, hport, hbusy, hs⟩ := machineStep_cases s
  · cases hs.symm.trans h
    exact .inl (coreStep_cfgvalid s)
  · cases hs.symm.trans h
    exact .inl rfl
  · exact .inl (busyMove_cfgvalid (fun hm => hreset rest (hm ▸ hport)) (hs.symm.trans h))
  · have hmove : idleMove m (s.withPort rest) = .next t := hs.symm.trans h
    cases m with
    | write a v =>
      obtain hkept | ⟨i, rfl, hencode, hexec⟩ := busWrite_cfgvalid hmove
      · exact .inl hkept
      · exact .inr ⟨hbusy, v, rest, i, hport, hencode, hexec⟩
    | read a => cases hmove; exact .inl (busRead_cfgvalid a _)
    | idle | waitBlk => cases hmove; exact .inl rfl
    | reset => exact absurd hport (hreset rest)

/-- Settles O39. -/
theorem configurationIsKept : Obligations.ConfigurationIsKept := by
  refine ⟨fun s t hreset hstep => ?_, fun i s t hcfg hrun hexec => ?_⟩
  · obtain hkept | ⟨hbusy, v, rest, i, hport, hencode, hexec⟩ := step_cfgvalid hreset hstep
    · exact ⟨by rw [hkept, BitVec.and_self], fun hne => absurd hkept hne⟩
    · have hbits : t.cfgvalid = s.cfgvalid ∨ (setsConfigured i ∧ ∃ m, t.cfgvalid = s.cfgvalid ||| m) :=
        (effect_of_exec hexec).cfgvalid
      obtain hkept | ⟨hsets, m, hor⟩ := hbits
      · exact ⟨by rw [hkept, BitVec.and_self], fun hne => absurd hkept hne⟩
      · exact ⟨by rw [hor, and_or_self], fun _ => ⟨hbusy, v, rest, i, hport, hencode, hsets⟩⟩
  · exact (effect_of_exec hexec).cfgvalid.resolve_right fun ⟨hsets, _⟩ => hsets.elim hcfg hrun

end Sys2Proof.Machine
end

section
/-! PROOF. The exact floor of the sine: the cosine of `r / 2^l` turns by half and double angles, bracketed by integer square roots and
compared exactly with a fraction. -/

namespace Sys2Proof.F64

/-! ### The integer square root -/

theorem isqrtBits_spec {n : Nat} (k r : Nat) (hlo : r * r ≤ n) (hhi : n < (r + 2 ^ k) * (r + 2 ^ k)) :
    isqrtBits n k r * isqrtBits n k r ≤ n ∧ n < (isqrtBits n k r + 1) * (isqrtBits n k r + 1) := by
  induction k generalizing r with
  | zero => exact ⟨hlo, hhi⟩
  | succ k ih =>
    unfold isqrtBits
    split
    · next h => exact ih (r + 2 ^ k) h (by rw [Nat.add_assoc, ← Nat.two_mul, ← pow_succ']; exact hhi)
    · next h => exact ih r hlo (not_le.1 h)

/-- `isqrt` is the integer square root, whichever of its two ways gives the answer. -/
theorem isqrt_spec (n : Nat) : isqrt n * isqrt n ≤ n ∧ n < (isqrt n + 1) * (isqrt n + 1) := by
  unfold isqrt
  simp only
  split
  · assumption
  · refine isqrtBits_spec _ 0 (Nat.zero_le _) ?_
    have hlog : n < 2 ^ (Nat.log2 n + 1) := Nat.lt_log2_self
    rw [Nat.zero_add, ← pow_add]
    exact hlog.trans_le (Nat.pow_le_pow_right (by norm_num) (by omega))

/-- The root as bounds on a real whose square is known to lie at or above, or at or below, the radicand. -/
theorem isqrt_le_abs {n : Nat} {x : ℝ} (h : (n : ℝ) ≤ x ^ 2) : (isqrt n : ℝ) ≤ |x| := by
  have hsq : ((isqrt n : ℝ)) ^ 2 ≤ x ^ 2 := by
    rw [pow_two]
    exact (by exact_mod_cast (isqrt_spec n).1 : (isqrt n : ℝ) * isqrt n ≤ n).trans h
  simpa using sq_le_sq.1 hsq

theorem abs_le_isqrt_add_one {n : Nat} {x : ℝ} (h : x ^ 2 ≤ n) : |x| ≤ isqrt n + 1 := by
  have hsq : x ^ 2 ≤ ((isqrt n : ℝ) + 1) ^ 2 := by
    rw [pow_two ((isqrt n : ℝ) + 1)]
    exact h.trans (by exact_mod_cast (isqrt_spec n).2.le)
  have habs := sq_le_sq.1 hsq
  rwa [abs_of_nonneg (by positivity : (0 : ℝ) ≤ isqrt n + 1)] at habs

end Sys2Proof.F64

namespace Sys2Proof.Machine

/-! ### The cosine of a dyadic part of the turn -/

/-- The cosine of `r / 2^l` turns. -/
noncomputable def turnCos (l r : Nat) : ℝ := Real.cos (2 * Real.pi * r / 2 ^ l)

theorem turnCos_zero (r : Nat) : turnCos 0 r = 1 := by
  have hturns : 2 * Real.pi * r / 2 ^ 0 = r * (2 * Real.pi) := by ring
  rw [turnCos, hturns, Real.cos_nat_mul_two_pi]

/-- `cos 2t = 2 cos^2 t - 1`. -/
theorem turnCos_double (l r : Nat) : turnCos l r = 2 * turnCos (l + 1) r ^ 2 - 1 := by
  have hdouble : 2 * Real.pi * r / 2 ^ l = 2 * (2 * Real.pi * r / 2 ^ (l + 1)) := by
    rw [pow_succ]
    field_simp
  rw [turnCos, turnCos, hdouble, Real.cos_two_mul]

theorem turnCos_mod (l r : Nat) : turnCos l (r % 2 ^ l) = turnCos l r := by
  have hsplit : (r : ℝ) = (r % 2 ^ l : ℕ) + 2 ^ l * (r / 2 ^ l : ℕ) := by exact_mod_cast (Nat.mod_add_div r (2 ^ l)).symm
  have hangle : 2 * Real.pi * r / 2 ^ l = 2 * Real.pi * (r % 2 ^ l : ℕ) / 2 ^ l + (r / 2 ^ l : ℕ) * (2 * Real.pi) := by
    rw [hsplit]
    field_simp
  rw [turnCos, turnCos, hangle, Real.cos_add_nat_mul_two_pi]

/-- The quadrant decides the sign. -/
theorem turnCos_nonneg_of_quadrant {l r : Nat} (h : cosNonneg l r = true) : 0 ≤ turnCos l r := by
  have hmod : r % 2 ^ l < 2 ^ l := Nat.mod_lt _ (by positivity)
  have hquadrant := of_decide_eq_true h
  rw [← turnCos_mod]
  generalize r % 2 ^ l = m at hmod hquadrant
  have hpi := Real.pi_pos
  have hpow : (0 : ℝ) < 2 ^ l := by positivity
  obtain hfirst | hfourth := hquadrant
  · have hm : (4 : ℝ) * m ≤ 2 ^ l := by exact_mod_cast hfirst
    refine Real.cos_nonneg_of_neg_pi_div_two_le_of_le ((by linarith : -(Real.pi / 2) ≤ 0).trans (by positivity)) ?_
    rw [div_le_iff₀ hpow]
    nlinarith
  · have hm : (3 : ℝ) * 2 ^ l ≤ 4 * m := by exact_mod_cast hfourth
    have hm' : (m : ℝ) ≤ 2 ^ l := by exact_mod_cast hmod.le
    rw [turnCos, ← Real.cos_two_pi_sub]
    refine Real.cos_nonneg_of_neg_pi_div_two_le_of_le ((by linarith : -(Real.pi / 2) ≤ 0).trans ?_) ?_
    · rw [sub_nonneg, div_le_iff₀ hpow]
      nlinarith
    · rw [sub_le_comm, le_div_iff₀ hpow]
      nlinarith

theorem turnCos_neg_of_quadrant {l r : Nat} (h : cosNonneg l r = false) : turnCos l r < 0 := by
  have hquadrant := of_decide_eq_false h
  rw [← turnCos_mod]
  generalize r % 2 ^ l = m at hquadrant
  have hpi := Real.pi_pos
  have hpow : (0 : ℝ) < 2 ^ l := by positivity
  rw [not_or, not_le, not_le] at hquadrant
  have hlo : (2 : ℝ) ^ l < 4 * m := by exact_mod_cast hquadrant.1
  have hhi : (4 : ℝ) * m < 3 * 2 ^ l := by exact_mod_cast hquadrant.2
  refine Real.cos_neg_of_pi_div_two_lt_of_lt ?_ ?_
  · rw [lt_div_iff₀ hpow]
    nlinarith
  · rw [div_lt_iff₀ hpow]
    nlinarith

/-! ### Comparison with a fraction -/

/-- `cosCompare` compares the cosine with `num / den`. -/
theorem cosCompare_compares (l r : Nat) (num : Int) {den : Nat} (hden : 0 < den) :
    (cosCompare l r num den).Compares (den * turnCos l r) (num : ℝ) := by
  induction l generalizing num den with
  | zero =>
    have hint : (compare (den : Int) num).Compares (den : Int) num := (compare_iff _ _).1 rfl
    rw [turnCos_zero, mul_one, cosCompare]
    cases ho : compare (den : Int) num <;> rw [ho] at hint <;> simp only [Ordering.Compares] at hint ⊢ <;> exact_mod_cast hint
  | succ l ih =>
    have hdouble := ih (2 * num ^ 2 - (den : Int) ^ 2) (den := den ^ 2) (by positivity)
    have hpos : (0 : ℝ) < den := by exact_mod_cast hden
    rw [turnCos_double] at hdouble
    push_cast at hdouble
    rw [cosCompare]
    generalize cosCompare l r (2 * num ^ 2 - (den : Int) ^ 2) (den ^ 2) = doubled at hdouble
    cases hsign : cosNonneg (l + 1) r with
    | true =>
      have hcos := mul_nonneg hpos.le (turnCos_nonneg_of_quadrant hsign)
      rw [if_pos rfl]
      split
      · next hnum =>
        have hnum' : (num : ℝ) < 0 := by exact_mod_cast hnum
        exact hnum'.trans_le hcos
      · next hnum =>
        have hnum' : (0 : ℝ) ≤ num := by exact_mod_cast not_lt.1 hnum
        cases doubled <;> simp only [Ordering.Compares] at hdouble ⊢
        · exact lt_of_pow_lt_pow_left₀ 2 hnum' (by nlinarith)
        · exact (pow_left_inj₀ hcos hnum' two_ne_zero).1 (by nlinarith)
        · exact lt_of_pow_lt_pow_left₀ 2 hcos (by nlinarith)
    | false =>
      have hcos := mul_neg_of_pos_of_neg hpos (turnCos_neg_of_quadrant hsign)
      rw [if_neg Bool.false_ne_true]
      split
      · next hnum =>
        have hnum' : (0 : ℝ) ≤ num := by exact_mod_cast hnum
        exact hcos.trans_le hnum'
      · next hnum =>
        have hnum' : (num : ℝ) ≤ 0 := by exact_mod_cast (not_le.1 hnum).le
        rw [Ordering.compares_swap]
        cases doubled <;> simp only [Ordering.Compares] at hdouble ⊢
        · exact neg_lt_neg_iff.1 (lt_of_pow_lt_pow_left₀ 2 (neg_nonneg.2 hnum') (by nlinarith))
        · exact neg_inj.1 ((pow_left_inj₀ (neg_nonneg.2 hnum') (neg_nonneg.2 hcos.le) two_ne_zero).1 (by nlinarith))
        · exact neg_lt_neg_iff.1 (lt_of_pow_lt_pow_left₀ 2 (neg_nonneg.2 hcos.le) (by nlinarith))

/-! ### The interval by half angles -/

theorem cast_toNat (z : Int) : (z.toNat : ℝ) = max (z : ℝ) 0 := by
  exact_mod_cast Int.ofNat_toNat z

theorem cast_toNat_le {z : Int} {x : ℝ} (h : (z : ℝ) ≤ x) (hx : 0 ≤ x) : (z.toNat : ℝ) ≤ x := by
  rw [cast_toNat]
  exact max_le h hx

theorem le_cast_toNat {z : Int} {x : ℝ} (h : x ≤ z) : x ≤ z.toNat := by
  rw [cast_toNat]
  exact h.trans (le_max_left _ _)

/-- The interval of `twoCosBounds` holds twice the cosine. -/
theorem twoCosBounds_spec (w l r : Nat) :
    ((twoCosBounds w l r).1 : ℝ) ≤ 2 ^ w * (2 * turnCos l r) ∧ 2 ^ w * (2 * turnCos l r) ≤ (twoCosBounds w l r).2 := by
  induction l with
  | zero =>
    rw [turnCos_zero, twoCosBounds]
    push_cast
    constructor <;> linarith [pow_succ (2 : ℝ) w]
  | succ l ih =>
    obtain ⟨hlo, hhi⟩ := ih
    have hpow : (0 : ℝ) < 2 ^ w := by positivity
    have hsq : (2 ^ w * (2 * turnCos (l + 1) r)) ^ 2 = (2 ^ (w + 1) + 2 ^ w * (2 * turnCos l r)) * 2 ^ w := by
      rw [turnCos_double l r, pow_succ]
      ring
    have hrad : 0 ≤ 2 ^ (w + 1) + 2 ^ w * (2 * turnCos l r) := by
      have hcos := Real.neg_one_le_cos (2 * Real.pi * r / 2 ^ l)
      rw [← turnCos] at hcos
      rw [pow_succ]
      nlinarith
    have hroot : (F64.isqrt ((2 ^ (w + 1) + (twoCosBounds w l r).1).toNat * 2 ^ w) : ℝ) ≤ |2 ^ w * (2 * turnCos (l + 1) r)| := by
      apply F64.isqrt_le_abs
      rw [hsq, Nat.cast_mul, Nat.cast_pow, Nat.cast_ofNat]
      refine mul_le_mul_of_nonneg_right (cast_toNat_le ?_ hrad) hpow.le
      push_cast
      linarith
    have hroot' : |2 ^ w * (2 * turnCos (l + 1) r)| ≤ F64.isqrt ((2 ^ (w + 1) + (twoCosBounds w l r).2).toNat * 2 ^ w) + 1 := by
      apply F64.abs_le_isqrt_add_one
      rw [hsq, Nat.cast_mul, Nat.cast_pow, Nat.cast_ofNat]
      refine mul_le_mul_of_nonneg_right (le_cast_toNat ?_) hpow.le
      push_cast
      linarith
    rw [twoCosBounds]
    cases hsign : cosNonneg (l + 1) r with
    | true =>
      have hcos : 0 ≤ 2 ^ w * (2 * turnCos (l + 1) r) := by
        have := turnCos_nonneg_of_quadrant hsign
        positivity
      rw [abs_of_nonneg hcos] at hroot hroot'
      rw [if_pos rfl]
      push_cast
      exact ⟨hroot, hroot'⟩
    | false =>
      have hcos : 2 ^ w * (2 * turnCos (l + 1) r) < 0 :=
        mul_neg_of_pos_of_neg hpow (by linarith [turnCos_neg_of_quadrant hsign])
      rw [abs_of_neg hcos] at hroot hroot'
      rw [if_neg Bool.false_ne_true]
      push_cast
      constructor <;> linarith

/-! ### The floor of the sine -/

/-- The search stops at the floor, or at its bound. -/
theorem sinFloorUpTo_spec (p l q n : Nat) : (sinFloorUpTo p l q n : ℝ) ≤ max 0 (2 ^ p * turnCos l (2 ^ l / 4 - q)) ∧
    (sinFloorUpTo p l q n = n ∨ 2 ^ p * turnCos l (2 ^ l / 4 - q) < sinFloorUpTo p l q n + 1) := by
  induction n with
  | zero => exact ⟨by simp [sinFloorUpTo], .inl rfl⟩
  | succ n ih =>
    have hcmp := cosCompare_compares l (2 ^ l / 4 - q) ((n + 1 : Nat) : Int) (den := 2 ^ p) (by positivity)
    rw [sinFloorUpTo]
    cases ho : cosCompare l (2 ^ l / 4 - q) ((n + 1 : Nat) : Int) (2 ^ p) <;> rw [ho] at hcmp <;>
      simp only [Ordering.Compares, Nat.cast_pow, Nat.cast_ofNat, Int.cast_natCast] at hcmp
    · rw [if_pos rfl]
      refine ⟨ih.1, .inr ?_⟩
      obtain heq | hlt := ih.2
      · rw [heq]
        exact_mod_cast hcmp
      · exact hlt
    · exact ⟨le_max_of_le_right hcmp.ge, .inl rfl⟩
    · exact ⟨le_max_of_le_right hcmp.le, .inl rfl⟩

/-- `sinFloor` is the floor of `2^p` times the sine of `q / 2^l` turns (10_state.md R48), here the cosine of the complementary angle. -/
theorem sinFloor_spec {l q : Nat} (p : Nat) (h : 0 ≤ turnCos l (2 ^ l / 4 - q)) :
    (sinFloor p l q : ℝ) ≤ 2 ^ p * turnCos l (2 ^ l / 4 - q) ∧ 2 ^ p * turnCos l (2 ^ l / 4 - q) < sinFloor p l q + 1 := by
  have hpos : (0 : ℝ) < 2 ^ (129 + l) := by positivity
  have hval : 0 ≤ 2 ^ p * turnCos l (2 ^ l / 4 - q) := by positivity
  unfold sinFloor
  simp only
  split
  · next hsame =>
    obtain ⟨hlo, hhi⟩ := twoCosBounds_spec (p + 128 + l) l (2 ^ l / 4 - q)
    have hscale : 2 ^ (p + 128 + l) * (2 * turnCos l (2 ^ l / 4 - q)) =
        2 ^ p * turnCos l (2 ^ l / 4 - q) * 2 ^ (129 + l) := by ring
    rw [hscale] at hlo hhi
    constructor
    · calc (((twoCosBounds (p + 128 + l) l (2 ^ l / 4 - q)).1.toNat / 2 ^ (129 + l) : Nat) : ℝ)
          ≤ (twoCosBounds (p + 128 + l) l (2 ^ l / 4 - q)).1.toNat / (2 ^ (129 + l) : Nat) := Nat.cast_div_le
        _ ≤ 2 ^ p * turnCos l (2 ^ l / 4 - q) := by
          rw [Nat.cast_pow, Nat.cast_ofNat, div_le_iff₀ hpos]
          exact cast_toNat_le hlo (by positivity)
    · rw [hsame]
      have hdiv := Nat.lt_div_mul_add (a := (twoCosBounds (p + 128 + l) l (2 ^ l / 4 - q)).2.toNat)
        (b := 2 ^ (129 + l)) (by positivity)
      refine lt_of_mul_lt_mul_right ((le_cast_toNat hhi).trans_lt ?_) hpos.le
      rw [add_one_mul]
      exact_mod_cast hdiv
  · obtain ⟨hlo, hhi⟩ := sinFloorUpTo_spec p l q (2 ^ p)
    rw [max_eq_right hval] at hlo
    refine ⟨hlo, hhi.elim (fun hmax => ?_) id⟩
    have hone := mul_le_mul_of_nonneg_left (Real.cos_le_one (2 * Real.pi * (2 ^ l / 4 - q : Nat) / 2 ^ l))
      (by positivity : (0 : ℝ) ≤ 2 ^ p)
    rw [hmax, turnCos]
    push_cast
    linarith

end Sys2Proof.Machine
end

section
/-! PROOF. Correct rounding of an irrational number of the unit interval, and with it the sine ROM: the reference table by an exact comparison of
each sine with the midpoints around its entry, the computed sizes by the exact floor. -/

namespace Sys2Proof.F64

theorem one_lt_overflowBound : 1 < overflowBound := by
  have hpow : (2 : ℝ) ^ 1024 = 2 ^ 54 * 2 ^ 970 := by rw [← pow_add]
  have hone : (1 : ℝ) ≤ 2 ^ 970 := one_le_pow₀ one_le_two
  rw [overflowBound, hpow]
  generalize (2 : ℝ) ^ 970 = u at hone
  linarith

theorem value_cast (z : Num64) : (value z : ℝ) = scaled z / 2 ^ 1074 := by
  simp only [value, Rat.cast_div, Rat.cast_intCast, Rat.cast_pow, Rat.cast_ofNat]

theorem mk_false (m : Nat) : mk false m = BitVec.ofNat 64 m := rfl

/-- A number is its own rounding. -/
theorem roundsTo_value {z : Num64} (hfin : isFinite z = true) (hbound : |(value z : ℝ)| < overflowBound)
    (hsign : (value z : ℝ) ≠ 0 → neg z = decide ((value z : ℝ) < 0)) : RoundsTo (value z : ℝ) z where
  overflow h := absurd hbound h.not_gt
  finite _ := hfin
  nearest _ y _ := by rw [sub_self, abs_zero]; exact abs_nonneg _
  even _ y _ hne htie := by
    rw [sub_self, abs_zero, abs_eq_zero, sub_eq_zero, Rat.cast_inj] at htie
    exact absurd htie.symm hne
  sign := hsign

/-- Half a quantum around the significand keeps it within 53 bits from below. -/
theorem Rounded.significand {r : ℝ} {k M : Nat} (h : Rounded r k M) : k = 0 ∨ 2 ^ 52 ≤ M := by
  refine h.normal.imp_right fun hnormal => ?_
  have hpow : (0 : ℝ) < 2 ^ k := by positivity
  have hreal : (2 : ℝ) * 2 ^ 52 * 2 ^ k ≤ (2 * M + 1) * 2 ^ k := by linarith [h.upper]
  have hle : (2 : ℝ) * 2 ^ 52 ≤ 2 * M + 1 := le_of_mul_le_mul_right hreal hpow
  have hnat : 2 * 2 ^ 52 ≤ 2 * M + 1 := by exact_mod_cast hle
  omega

/-- An irrational number of the unit interval rounds to the pattern joined from its quantum and significand: no tie can arise. -/
theorem roundsTo_of_rounded {v : ℝ} (hpos : 0 < v) (hone : v ≤ 1) (hirr : Irrational v) {k M : Nat} (hM : M ≤ 2 ^ 53)
    (h : Rounded (v * 2 ^ 1074) k M) : k * 2 ^ 52 + M < infBits ∧ RoundsTo v (mk false (k * 2 ^ 52 + M)) := by
  have hfull := h.significand
  have hunit : (0 : ℝ) < 2 ^ 1074 := by positivity
  have hk : k ≤ 1022 := by
    rcases h.normal with rfl | hnormal
    · exact Nat.zero_le _
    have hle : (2 : ℝ) ^ (52 + k) ≤ 2 ^ 1074 := by
      rw [pow_add]
      exact hnormal.trans (mul_le_of_le_one_left hunit.le hone)
    have := (pow_le_pow_iff_right₀ (one_lt_two (α := ℝ))).1 hle
    omega
  have hpattern : k * 2 ^ 52 + M < infBits := by
    unfold infBits
    omega
  have hlt : k * 2 ^ 52 + M < 2 ^ 63 := hpattern.trans (by decide)
  have hneg : neg (mk false (k * 2 ^ 52 + M)) = false := neg_mk _ hlt
  have hscaled : (scaled (mk false (k * 2 ^ 52 + M)) : ℝ) = M * 2 ^ k := by
    rw [scaled_of_nonneg hneg, mag_mk _ hlt, magScale_join hM hfull]
    push_cast
    rfl
  have hdist (y : ℝ) : |v - y / 2 ^ 1074| = |v * 2 ^ 1074 - y| / 2 ^ 1074 := by
    rw [← abs_of_pos hunit, ← abs_div, abs_of_pos hunit, sub_div, mul_div_cancel_right₀ _ hunit.ne']
  refine ⟨hpattern, ?_, fun _ => ?_, fun _ y _ => ?_, fun _ y _ hne htie => ?_, fun _ => ?_⟩
  · intro hover
    rw [abs_of_pos hpos] at hover
    exact absurd (hover.trans hone) one_lt_overflowBound.not_ge
  · rw [isFinite, mag_mk _ hlt]
    exact decide_eq_true hpattern
  · rw [value_cast, value_cast, hdist, hdist, hscaled]
    exact div_le_div_of_nonneg_right (h.le_of_scaled y) hunit.le
  · obtain heq | heq := abs_eq_abs.1 htie
    · exact absurd (Rat.cast_injective (by linarith : (value y : ℝ) = value _)) hne
    · refine absurd ⟨(value y + value (mk false (k * 2 ^ 52 + M))) / 2, ?_⟩ hirr
      rw [Rat.cast_div, Rat.cast_add, Rat.cast_ofNat]
      linear_combination -(1 / 2 : ℝ) * heq
  · rw [hneg, decide_eq_false hpos.not_gt]

/-- The quantum and significand that `roundMag` finds for the middle of a unit interval at scale `2^p` are those of every point of the
interval, when the quantum is coarser than the interval: no boundary between two roundings then lies inside (10_state.md R48). -/
theorem rounded_of_floor {v : ℝ} {p n k M : Nat} (hlo : (n : ℝ) ≤ 2 ^ p * v) (hhi : 2 ^ p * v ≤ n + 1) (hbig : 2 ^ 66 ≤ n)
    (hlow : k = 0 ∨ 2 ^ 52 * (2 ^ k * 2 ^ (p + 1)) ≤ (2 * n + 1) * 2 ^ 1074)
    (hhigh : (2 * n + 1) * 2 ^ 1074 < 2 ^ 53 * (2 ^ k * 2 ^ (p + 1)))
    (hM : 2 * M * (2 ^ k * 2 ^ (p + 1)) ≤ 2 * ((2 * n + 1) * 2 ^ 1074) + 2 ^ k * 2 ^ (p + 1))
    (hM' : 2 * ((2 * n + 1) * 2 ^ 1074) ≤ (2 * M + 1) * (2 ^ k * 2 ^ (p + 1))) : Rounded (v * 2 ^ 1074) k M := by
  obtain ⟨e, he⟩ : ∃ e, k + p = 1075 + e := by
    have hpow : 2 ^ (67 + 1074) < 2 ^ (54 + (k + p)) := by
      calc 2 ^ (67 + 1074) = 2 ^ 67 * 2 ^ 1074 := pow_add ..
        _ ≤ (2 * n + 1) * 2 ^ 1074 := Nat.mul_le_mul_right _ (by omega)
        _ < 2 ^ 53 * (2 ^ k * 2 ^ (p + 1)) := hhigh
        _ = 2 ^ (54 + (k + p)) := by rw [← pow_add, ← pow_add]; congr 1; omega
    have := (Nat.pow_lt_pow_iff_right (by norm_num : 1 < 2)).1 hpow
    exact ⟨k + p - 1075, by omega⟩
  have hquantum : 2 ^ k * 2 ^ (p + 1) = 4 * 2 ^ e * 2 ^ 1074 := by
    rw [← pow_add, show 4 = 2 ^ 2 by norm_num, ← pow_add, ← pow_add]
    congr 1
    omega
  have hT : 0 < 2 ^ 1074 := by positivity
  rw [hquantum] at hlow hM hM'
  generalize 2 ^ 1074 = T at hT hlow hM hM'
  have hbelow : 2 * M * 2 ^ e ≤ n + 2 ^ e := by
    have hcancel : 8 * (M * 2 ^ e) ≤ 4 * n + 2 + 4 * 2 ^ e :=
      Nat.le_of_mul_le_mul_right (by linarith : 8 * (M * 2 ^ e) * T ≤ (4 * n + 2 + 4 * 2 ^ e) * T) hT
    rw [Nat.mul_assoc]
    omega
  have habove : n + 1 ≤ (2 * M + 1) * 2 ^ e := by
    have hcancel : 4 * n + 2 ≤ 8 * (M * 2 ^ e) + 4 * 2 ^ e :=
      Nat.le_of_mul_le_mul_right (by linarith : (4 * n + 2) * T ≤ (8 * (M * 2 ^ e) + 4 * 2 ^ e) * T) hT
    rw [Nat.add_mul, Nat.mul_assoc]
    omega
  have hnormal : k = 0 ∨ 2 ^ 53 * 2 ^ e ≤ n := by
    refine hlow.imp_right fun h => ?_
    have hcancel : 2 ^ 54 * 2 ^ e ≤ 2 * n + 1 :=
      Nat.le_of_mul_le_mul_right (by linarith : 2 ^ 54 * 2 ^ e * T ≤ (2 * n + 1) * T) hT
    omega
  have hbelow' : (2 * M * 2 ^ e : ℝ) ≤ n + 2 ^ e := by exact_mod_cast hbelow
  have habove' : (n + 1 : ℝ) ≤ (2 * M + 1) * 2 ^ e := by exact_mod_cast habove
  have hp : (0 : ℝ) < 2 ^ p := by positivity
  have hv : 0 ≤ v := nonneg_of_mul_nonneg_right ((Nat.cast_nonneg n).trans hlo) hp
  obtain ⟨c, hc, hk, hvc⟩ : ∃ c : ℝ, 0 < c ∧ (2 : ℝ) ^ k = 2 ^ e * c ∧ 2 * (v * 2 ^ 1074) = 2 ^ p * v * c := by
    refine ⟨2 * 2 ^ 1074 / 2 ^ p, by positivity, ?_, ?_⟩
    · rw [← mul_div_assoc, eq_div_iff hp.ne', ← pow_succ', ← pow_add, ← pow_add]
      congr 1
      omega
    · rw [mul_comm (2 ^ p), mul_assoc, mul_div_cancel₀ _ hp.ne']
      exact mul_left_comm ..
  have scale {x y : ℝ} (h : x ≤ y) : x * c ≤ y * c := mul_le_mul_of_nonneg_right h hc.le
  refine ⟨?_, ?_, hnormal.imp_right fun h => ?_, by positivity⟩
  · rw [hk, hvc, ← mul_assoc]
    exact scale (by linarith)
  · rw [hk, hvc, ← mul_assoc]
    exact scale (by linarith)
  · have hn : (2 ^ 53 * 2 ^ e : ℝ) ≤ n := by exact_mod_cast h
    have hscaled := scale (hn.trans hlo)
    rw [← hvc] at hscaled
    rw [hk]
    refine le_of_mul_le_mul_left ?_ two_pos
    calc 2 * (2 ^ 52 * (2 ^ e * c)) = 2 ^ 53 * 2 ^ e * c := by ring
      _ ≤ 2 * (v * 2 ^ 1074) := hscaled

/-- A number between the two midpoints around a normal number that is no power of two. -/
theorem rounded_of_midpoints {v : ℝ} {k M : Nat} (hk : k ≤ 1075) (hM : 2 ^ 52 < M) (hlo : (2 * M - 1 : ℝ) ≤ 2 ^ (1075 - k) * v)
    (hhi : 2 ^ (1075 - k) * v ≤ 2 * M + 1) : Rounded (v * 2 ^ 1074) k M := by
  have hpow : (0 : ℝ) < 2 ^ k := by positivity
  have hscale : 2 * (v * 2 ^ 1074) = 2 ^ (1075 - k) * v * 2 ^ k := by
    rw [mul_right_comm, ← pow_add, Nat.sub_add_cancel hk, pow_succ' (2 : ℝ) 1074, mul_assoc 2 (_ ^ _), mul_comm v]
  have hsig : (2 ^ 52 + 1 : ℝ) ≤ M := by exact_mod_cast hM
  have hnormal : 2 ^ 52 * 2 ^ k ≤ v * 2 ^ 1074 := by
    refine le_of_mul_le_mul_left ?_ two_pos
    rw [hscale, ← mul_assoc]
    exact mul_le_mul_of_nonneg_right (by linarith) hpow.le
  refine ⟨?_, ?_, .inr hnormal, (by positivity : (0 : ℝ) ≤ 2 ^ 52 * 2 ^ k).trans hnormal⟩
  · rw [hscale]
    exact mul_le_mul_of_nonneg_right hlo hpow.le
  · rw [hscale]
    exact mul_le_mul_of_nonneg_right hhi hpow.le

end Sys2Proof.F64

namespace Sys2Proof.Machine

/-! ### The angles of the ROM -/

/-- The sine of `q / 2^l` turns is the cosine of the complementary angle. -/
theorem sin_eq_turnCos {l q : Nat} (hl : 2 ≤ l) (hq : q ≤ 2 ^ l / 4) :
    Real.sin (2 * Real.pi * q / 2 ^ l) = turnCos l (2 ^ l / 4 - q) := by
  obtain ⟨m, rfl⟩ := Nat.exists_eq_add_of_le hl
  have hquarter : 2 ^ (2 + m) / 4 = 2 ^ m := by rw [pow_add]; omega
  rw [hquarter] at hq ⊢
  rw [turnCos, Nat.cast_sub hq, ← Real.cos_pi_div_two_sub]
  congr 1
  push_cast
  rw [pow_add]
  field_simp

/-- A fraction strictly between 0 and a half over a power of two has a denominator of at least 4. -/
theorem three_lt_den {x : ℚ} {l : Nat} (hdvd : x.den ∣ 2 ^ l) (hpos : 0 < x) (hlt : x * 2 < 1) : 3 < x.den := by
  obtain ⟨j, -, hj⟩ := (Nat.dvd_prime_pow Nat.prime_two).1 hdvd
  by_contra hsmall
  have hj1 : j < 2 := by
    by_contra hge
    have := Nat.pow_le_pow_right (n := 2) (by norm_num) (not_lt.1 hge)
    omega
  obtain ⟨m, hm⟩ : x.den ∣ 2 := hj ▸ Nat.pow_dvd_pow 2 (Nat.lt_succ_iff.1 hj1)
  have hint : x * 2 = (x.num * m : Int) := by
    calc x * 2 = x * (x.den * m : Nat) := by rw [← hm]; rfl
      _ = x.num * m := by rw [Nat.cast_mul, ← mul_assoc, Rat.mul_den_eq_num]
      _ = (x.num * m : Int) := by push_cast; rfl
  have hpos' : 0 < x.num * m := by
    have : (0 : ℚ) < (x.num * m : Int) := hint ▸ mul_pos hpos two_pos
    exact_mod_cast this
  have hlt' : x.num * m < 1 := by
    rw [hint] at hlt
    exact_mod_cast hlt
  omega

/-- Strictly inside the first quarter the cosine is irrational: by Niven's theorem, for the angle is an even fraction of the half turn. -/
theorem irrational_turnCos {l r : Nat} (hr : 0 < r) (h : 4 * r < 2 ^ l) : Irrational (turnCos l r) := by
  have hpow : (0 : ℚ) < 2 ^ l := by positivity
  have hr' : (4 : ℚ) * r < 2 ^ l := by exact_mod_cast h
  have hdvd : (((2 * r : Nat) : Int) / ((2 ^ l : Nat) : Int) : ℚ).den ∣ 2 ^ l := by
    exact_mod_cast Rat.den_dvd ((2 * r : Nat) : Int) ((2 ^ l : Nat) : Int)
  have hden : 3 < (((2 * r : Nat) : Int) / ((2 ^ l : Nat) : Int) : ℚ).den := by
    refine three_lt_den hdvd (by push_cast; positivity) ?_
    push_cast
    rw [div_mul_eq_mul_div, div_lt_one hpow]
    linarith
  have hangle : 2 * Real.pi * r / 2 ^ l = ((((2 * r : Nat) : Int) / ((2 ^ l : Nat) : Int) : ℚ) : ℝ) * Real.pi := by
    push_cast
    ring
  rw [turnCos, hangle]
  exact irrational_cos_rat_mul_pi hden

/-- Jordan's inequality for the entries of the ROM. -/
theorem le_sin_of_quarter {l q : Nat} (h : 4 * q ≤ 2 ^ l) : (4 * q : ℝ) / 2 ^ l ≤ Real.sin (2 * Real.pi * q / 2 ^ l) := by
  have hpow : (0 : ℝ) < 2 ^ l := by positivity
  have hq : (4 : ℝ) * q ≤ 2 ^ l := by exact_mod_cast h
  have hpi := Real.pi_pos
  have hjordan := Real.mul_le_sin (x := 2 * Real.pi * q / 2 ^ l) (by positivity) (by
    rw [div_le_iff₀ hpow]
    nlinarith)
  calc (4 * q : ℝ) / 2 ^ l = 2 / Real.pi * (2 * Real.pi * q / 2 ^ l) := by field_simp; ring
    _ ≤ _ := hjordan

/-! ### The computed sizes -/

/-- Scale of the floor of `sinqComputed`: every entry but the first is at least `2^(2-l)`, so at `65 + l` fraction bits its floor has at
least 67 bits. -/
theorem sinFloor_big {l q : Nat} (hl : 2 ≤ l) (hq : 0 < q) (h : 4 * q < 2 ^ l) :
    (sinFloor (65 + l) l q : ℝ) ≤ 2 ^ (65 + l) * Real.sin (2 * Real.pi * q / 2 ^ l) ∧
      2 ^ (65 + l) * Real.sin (2 * Real.pi * q / 2 ^ l) ≤ sinFloor (65 + l) l q + 1 ∧ 2 ^ 66 ≤ sinFloor (65 + l) l q := by
  have hpow : (0 : ℝ) < 2 ^ l := by positivity
  have hq1 : (1 : ℝ) ≤ q := by exact_mod_cast hq
  have hjordan := le_sin_of_quarter h.le
  have hcos := sin_eq_turnCos hl (show q ≤ 2 ^ l / 4 by omega)
  have hnonneg : 0 ≤ turnCos l (2 ^ l / 4 - q) := hcos ▸ (by positivity : (0 : ℝ) ≤ 4 * q / 2 ^ l).trans hjordan
  obtain ⟨hlo, hhi⟩ := sinFloor_spec (65 + l) hnonneg
  rw [← hcos] at hlo hhi
  refine ⟨hlo, hhi.le, ?_⟩
  have hbig : (2 : ℝ) ^ 67 < sinFloor (65 + l) l q + 1 := by
    calc (2 : ℝ) ^ 67 ≤ 2 ^ 67 * q := le_mul_of_one_le_right (by positivity) hq1
      _ = 2 ^ (65 + l) * (4 * q / 2 ^ l) := by rw [pow_add]; field_simp; norm_num
      _ ≤ 2 ^ (65 + l) * Real.sin (2 * Real.pi * q / 2 ^ l) := mul_le_mul_of_nonneg_left hjordan (by positivity)
      _ < _ := hhi
  have hnat : 2 ^ 67 < sinFloor (65 + l) l q + 1 := by exact_mod_cast hbig
  omega

theorem sin_irrational {l q : Nat} (hl : 2 ≤ l) (hq : 0 < q) (h : 4 * q < 2 ^ l) :
    Irrational (Real.sin (2 * Real.pi * q / 2 ^ l)) := by
  have hquarter : 4 ∣ 2 ^ l := pow_dvd_pow 2 hl
  rw [sin_eq_turnCos hl (by omega)]
  exact irrational_turnCos (by omega) (by omega)

theorem sin_pos_of_quarter {l q : Nat} (hq : 0 < q) (h : 4 * q < 2 ^ l) : 0 < Real.sin (2 * Real.pi * q / 2 ^ l) :=
  (by positivity : (0 : ℝ) < 4 * q / 2 ^ l).trans_le (le_sin_of_quarter h.le)

/-- A computed entry strictly inside the quarter is correctly rounded. -/
theorem sinqComputed_roundsTo {l q : Nat} (hl : 2 ≤ l) (hq : 0 < q) (h : 4 * q < 2 ^ l) :
    F64.RoundsTo (Real.sin (2 * Real.pi * q / 2 ^ l)) (sinqComputed l q) := by
  obtain ⟨hlo, hhi, hbig⟩ := sinFloor_big hl hq h
  rw [sinqComputed, if_neg hq.ne', if_neg h.ne, show 66 + l = 65 + l + 1 by omega]
  generalize sinFloor (65 + l) l q = n at hlo hhi hbig
  obtain ⟨k, M, hround, hlow, hhigh, hM, hM', -⟩ := F64.roundMag_spec ((2 * n + 1) * 2 ^ 1074) (d := 2 ^ (65 + l + 1)) (by positivity)
  have hfit := (F64.significand_bounds (by positivity) hlow hhigh hM hM').1
  have hrounded := F64.rounded_of_floor hlo hhi hbig hlow hhigh hM hM'
  obtain ⟨hpattern, hresult⟩ :=
    F64.roundsTo_of_rounded (sin_pos_of_quarter hq h) (Real.sin_le_one _) (sin_irrational hl hq h) hfit hrounded
  rwa [hround, Nat.min_eq_left hpattern.le]

/-! ### The reference table -/

/-- Entry `q` of the reference table as a quantum `2^k` and a 53-bit significand. -/
def tableExponent (q : Nat) : Nat := sinqTable.getD q 0 / 2 ^ 52 - 1
def tableSignificand (q : Nat) : Nat := sinqTable.getD q 0 % 2 ^ 52 + 2 ^ 52

theorem tableSignificand_le (q : Nat) : tableSignificand q ≤ 2 ^ 53 := by
  unfold tableSignificand
  omega

/-- The sine of entry `q` lies strictly between the midpoints around the entry, by the exact comparison; the entry is a normal number
and no power of two, so that the midpoints are half a quantum away on both sides. -/
def tableBracketed (q : Nat) : Bool :=
  decide (tableExponent q ≤ 1022 ∧ 2 ^ 52 < tableSignificand q ∧
    sinqTable.getD q 0 = tableExponent q * 2 ^ 52 + tableSignificand q) &&
  decide (cosCompare 10 (2 ^ 10 / 4 - q) (2 * tableSignificand q - 1) (2 ^ (1075 - tableExponent q)) = .gt) &&
  decide (cosCompare 10 (2 ^ 10 / 4 - q) (2 * tableSignificand q + 1) (2 ^ (1075 - tableExponent q)) = .lt)

theorem table_bracketed : ∀ q < 256, 0 < q → tableBracketed q = true := by decide +kernel

/-- An entry of the reference table strictly inside the quarter is correctly rounded (40_function_units.md R110). -/
theorem sinqTable_roundsTo {q : Nat} (hq : 0 < q) (h : q < 256) :
    F64.RoundsTo (Real.sin (2 * Real.pi * q / 2 ^ 10)) (BitVec.ofNat 64 (sinqTable.getD q 0)) := by
  have hquarter : 4 * q < 2 ^ 10 := by omega
  have hcos := sin_eq_turnCos (l := 10) (by norm_num) (show q ≤ 2 ^ 10 / 4 by omega)
  have hcheck := table_bracketed q h hq
  simp only [tableBracketed, Bool.and_eq_true, decide_eq_true_eq] at hcheck
  obtain ⟨⟨⟨hexp, hsig, hpattern⟩, hgt⟩, hlt⟩ := hcheck
  have hlower := cosCompare_compares 10 (2 ^ 10 / 4 - q) (2 * tableSignificand q - 1) (den := 2 ^ (1075 - tableExponent q))
    (by positivity)
  have hupper := cosCompare_compares 10 (2 ^ 10 / 4 - q) (2 * tableSignificand q + 1) (den := 2 ^ (1075 - tableExponent q))
    (by positivity)
  rw [hgt, ← hcos] at hlower
  rw [hlt, ← hcos] at hupper
  simp only [Ordering.Compares, gt_iff_lt, Nat.cast_pow, Nat.cast_ofNat, Int.cast_add, Int.cast_sub, Int.cast_mul, Int.cast_ofNat,
    Int.cast_natCast, Int.cast_one] at hlower hupper
  have hrounded := F64.rounded_of_midpoints (by omega) hsig hlower.le hupper.le
  rw [hpattern, ← F64.mk_false]
  exact (F64.roundsTo_of_rounded (sin_pos_of_quarter hq hquarter) (Real.sin_le_one _) (sin_irrational (by norm_num) hq hquarter)
    (tableSignificand_le q) hrounded).2

/-! ### Both ends, and every table -/

/-- The first entry. -/
theorem posZero_roundsTo : F64.RoundsTo 0 F64.posZero := by
  have hvalue : (F64.value F64.posZero : ℝ) = 0 := by
    rw [F64.value_cast, show F64.scaled F64.posZero = 0 by decide, Int.cast_zero, zero_div]
  have hbound := F64.one_lt_overflowBound
  rw [← hvalue]
  exact F64.roundsTo_value (by decide) (by rw [hvalue, abs_zero]; linarith) fun h => absurd hvalue h

/-- The last entry. -/
theorem one_roundsTo : F64.RoundsTo 1 F64.one := by
  have hvalue : (F64.value F64.one : ℝ) = 1 := by
    rw [F64.value_cast, F64.scaled_one, Int.cast_pow, Int.cast_ofNat]
    exact div_self (by positivity)
  have hbound := F64.one_lt_overflowBound
  rw [← hvalue]
  refine F64.roundsTo_value (by decide) (by rwa [hvalue, abs_one]) fun _ => ?_
  rw [hvalue, decide_eq_false (by norm_num)]
  decide

theorem sinq_zero (l : Nat) : sinq l 0 = F64.posZero := by
  unfold sinq
  split
  · decide
  · rfl

theorem sinq_quarter {l : Nat} (hl : 2 ≤ l) : sinq l (2 ^ l / 4) = F64.one := by
  have hquarter : 4 * (2 ^ l / 4) = 2 ^ l := Nat.mul_div_cancel' (pow_dvd_pow 2 hl)
  have hpos : 0 < 2 ^ l := by positivity
  unfold sinq
  split
  · next h =>
    subst h
    decide
  · rw [sinqComputed, if_neg (by omega), if_pos hquarter]

/-- Settles O60: the two ends exactly, the reference table by its brackets, the other sizes by the floor. -/
theorem sineRom : Obligations.SineRom := by
  intro l hl
  have hl2 : 2 ≤ l := by omega
  have hquarter : 4 * (2 ^ l / 4) = 2 ^ l := Nat.mul_div_cancel' (pow_dvd_pow 2 hl2)
  refine ⟨sinq_zero l, sinq_quarter hl2, fun q hq => ?_⟩
  rcases Nat.eq_zero_or_pos q with rfl | hpos
  · rw [sinq_zero]
    simpa using posZero_roundsTo
  rcases Nat.eq_or_lt_of_le hq with rfl | hlt
  · rw [sinq_quarter hl2, sin_eq_turnCos hl2 le_rfl, Nat.sub_self, turnCos, Nat.cast_zero, mul_zero, zero_div, Real.cos_zero]
    exact one_roundsTo
  unfold sinq
  split
  · next h =>
    subst h
    exact sinqTable_roundsTo hpos hlt
  · exact sinqComputed_roundsTo hl2 hpos (by omega)

end Sys2Proof.Machine
end

section
/-! PROOF. The address map read backwards: the addresses of every location, and what a read, a refused access and a held access do, with
and without a running block. -/

namespace Sys2Proof.Machine

/-! ### The addresses of every location -/

/-- Word address `n` is that of a location: a named register by the list of them, an array's element by its window
(20_memory.md R60). -/
inductive Reaches (c : Config) (n : Nat) : Loc → Prop
  | named {l : Loc} (h : namedRegs.lookup n = some l) : Reaches c n l
  | harmPhase {k : Nat} (hk : k < c.harmMax) (h : n = 0x01000 + k) : Reaches c n (.harmPhase k)
  | harmAmp {k : Nat} (hk : k < c.harmMax) (h : n = 0x02000 + k) : Reaches c n (.harmAmp k)
  | harmInc {k : Nat} (hk : k < c.harmMax) (h : n = 0x03000 + k) : Reaches c n (.harmInc k)
  | obuf {k : Nat} (hk : k < c.obufDepth) (h : n = 0x10000 + k) : Reaches c n (.obuf k)
  | fifo {k : Nat} (hk : k < c.delayMax) (h : n = 0x20000 + k) : Reaches c n (.fifo k)
  | sinq {k : Nat} (hk : k < 2 ^ c.lutBits / 4 + 1) (h : n = 0x30000 + k) : Reaches c n (.sinq k)

theorem exists_of_inWindow {base size n : Nat} (h : inWindow base size n = true) : n - base < size ∧ n = base + (n - base) := by
  rw [inWindow, decide_eq_true_iff] at h
  omega

theorem inWindow_add {base size k : Nat} (hk : k < size) : inWindow base size (base + k) = true :=
  decide_eq_true ⟨Nat.le_add_right .., Nat.add_lt_add_left hk _⟩

theorem inWindow_eq_false {base size n : Nat} (h : n < base ∨ base + size ≤ n) : inWindow base size n = false :=
  decide_eq_false (by omega)

theorem reaches_of_locOf {c : Config} {a : Addr} {l : Loc} (h : locOf c a = some l) : Reaches c a.toNat l := by
  unfold locOf at h
  simp only at h
  split_ifs at h with hlow hphase hamp hinc hobuf hfifo hsinq
  · exact .named h
  all_goals cases h
  · exact .harmPhase (exists_of_inWindow hphase).1 (exists_of_inWindow hphase).2
  · exact .harmAmp (exists_of_inWindow hamp).1 (exists_of_inWindow hamp).2
  · exact .harmInc (exists_of_inWindow hinc).1 (exists_of_inWindow hinc).2
  · exact .obuf (exists_of_inWindow hobuf).1 (exists_of_inWindow hobuf).2
  · exact .fifo (exists_of_inWindow hfifo).1 (exists_of_inWindow hfifo).2
  · exact .sinq (exists_of_inWindow hsinq).1 (exists_of_inWindow hsinq).2

/-- The windows of a legal configuration record do not meet, so the order in which the map tries them does not matter. -/
theorem locOf_of_reaches {c : Config} (hc : c.Legal) {a : Addr} {l : Loc} (h : Reaches c a.toNat l) : locOf c a = some l := by
  have hharm := hc.harmMax.2
  have hobuf := hc.obufDepth.2
  have hdelay := hc.delayMax.2
  have hnamed {n : Nat} (h : 0x01000 ≤ n) : ¬ n < 0x01000 := Nat.not_lt.2 h
  cases h with
  | named h => exact locOf_of_lookup h
  | _ hk h =>
    simp (disch := omega) [locOf, harmPhaseBase, harmAmpBase, harmIncBase, obufBase, fifoBase, sinqBase, h,
      hnamed, inWindow_add hk, inWindow_eq_false]

/-- The map in both directions. -/
theorem locOf_eq_some_iff {c : Config} (hc : c.Legal) {a : Addr} {l : Loc} : locOf c a = some l ↔ Reaches c a.toNat l :=
  ⟨reaches_of_locOf, locOf_of_reaches hc⟩

/-- The intervals of the named registers, first and last address (20_memory.md R60). -/
def namedRuns : List (Nat × Nat) :=
  [(0x00000, 0x0000D), (0x00010, 0x00015), (0x00020, 0x00028), (0x00030, 0x00038), (0x00040, 0x00042), (0x00044, 0x00044),
   (0x00048, 0x00049), (0x0004C, 0x0004C), (0x00050, 0x00051), (0x00054, 0x0005F), (0x00060, 0x00064), (0x00068, 0x0006F),
   (0x00070, 0x00071), (0x00080, 0x0008B), (0x00090, 0x0009B), (0x000A0, 0x000A6), (0x000B0, 0x000B3)]

theorem isSome_lookup_namedRegs_iff (n : Nat) :
    (namedRegs.lookup n).isSome = true ↔ ∃ r ∈ namedRuns, r.1 ≤ n ∧ n ≤ r.2 := by
  have hregs : ∀ r ∈ namedRegs, ∃ run ∈ namedRuns, run.1 ≤ r.1 ∧ r.1 ≤ run.2 := by decide +kernel
  have hruns : ∀ run ∈ namedRuns, ∀ k ≤ run.2 - run.1, (namedRegs.lookup (run.1 + k)).isSome = true := by decide +kernel
  constructor
  · intro h
    obtain ⟨l, hl⟩ := Option.isSome_iff_exists.1 h
    exact hregs (n, l) (mem_of_lookup hl)
  · rintro ⟨run, hrun, hlo, hhi⟩
    have h := hruns run hrun (n - run.1) (by omega)
    rwa [Nat.add_sub_cancel' hlo] at h

/-- The mapped addresses: the named registers and the six windows. -/
theorem isSome_locOf_iff {c : Config} (hc : c.Legal) (a : Addr) : (locOf c a).isSome = true ↔
    (namedRegs.lookup a.toNat).isSome = true ∨
    (0x01000 ≤ a.toNat ∧ a.toNat ≤ 0x01000 + c.harmMax - 1) ∨ (0x02000 ≤ a.toNat ∧ a.toNat ≤ 0x02000 + c.harmMax - 1) ∨
    (0x03000 ≤ a.toNat ∧ a.toNat ≤ 0x03000 + c.harmMax - 1) ∨ (0x10000 ≤ a.toNat ∧ a.toNat ≤ 0x10000 + c.obufDepth - 1) ∨
    (0x20000 ≤ a.toNat ∧ a.toNat ≤ 0x20000 + c.delayMax - 1) ∨
    (0x30000 ≤ a.toNat ∧ a.toNat ≤ 0x30000 + 2 ^ c.lutBits / 4) := by
  simp only [Option.isSome_iff_exists, locOf_eq_some_iff hc]
  constructor
  · rintro ⟨l, h⟩
    cases h with
    | named h => exact .inl ⟨l, h⟩
    | _ hk h => exact .inr (by omega)
  · rintro (⟨l, h⟩ | hphase | hamp | hinc | hobuf | hfifo | hsinq)
    · exact ⟨l, .named h⟩
    · exact ⟨_, .harmPhase (k := a.toNat - 0x01000) (by omega) (by omega)⟩
    · exact ⟨_, .harmAmp (k := a.toNat - 0x02000) (by omega) (by omega)⟩
    · exact ⟨_, .harmInc (k := a.toNat - 0x03000) (by omega) (by omega)⟩
    · exact ⟨_, .obuf (k := a.toNat - 0x10000) (by omega) (by omega)⟩
    · exact ⟨_, .fifo (k := a.toNat - 0x20000) (by omega) (by omega)⟩
    · exact ⟨_, .sinq (k := a.toNat - 0x30000) (by omega) (by omega)⟩

/-- The access rights of the named registers (10_state.md R21 to R46). -/
theorem access_of_mem_namedRegs : ∀ r ∈ namedRegs, (r.2.access = .wo ↔ r.1 = 0x00006) ∧ (r.2.access = .w1c ↔ r.1 = 0x00001) ∧
    (r.2.access = .rw ↔ r.1 = 0x00002 ∨ (0x00008 ≤ r.1 ∧ r.1 ≤ 0x0000C) ∨ (0x00010 ≤ r.1 ∧ r.1 ≤ 0x00015) ∨
      (0x00020 ≤ r.1 ∧ r.1 ≤ 0x00028)) := by
  decide

/-- What is not a named register is an element of a read-only array above them. -/
theorem Reaches.lookup_or_ro {c : Config} {n : Nat} {l : Loc} (h : Reaches c n l) :
    namedRegs.lookup n = some l ∨ (l.access = .ro ∧ 0x01000 ≤ n) := by
  cases h with
  | named h => exact .inl h
  | _ hk h => exact .inr ⟨rfl, by omega⟩

/-- Settles O29: the named registers have their rights from the list, and no window's address is one that may be written. -/
theorem addressMap : Obligations.AddressMap := by
  intro c a hc n within
  have hlegal := c.wellFormed_iff_legal.1 hc
  constructor
  · rw [isSome_locOf_iff hlegal, isSome_lookup_namedRegs_iff]
    have hsingle (m : Nat) : n = m ↔ m ≤ n ∧ n ≤ m := by omega
    simp only [namedRuns, List.exists_mem_cons_iff, List.not_mem_nil, false_and, exists_false, or_false, or_assoc, within, hsingle, n]
  · intro l h
    obtain hlookup | ⟨hro, hn⟩ := (reaches_of_locOf h).lookup_or_ro
    · exact access_of_mem_namedRegs (n, l) (mem_of_lookup hlookup)
    · simp only [hro, within, reduceCtorEq, false_iff]
      omega

/-! ### Reads -/

theorem readLoc_withPort (s : State) (moves : List HostMove) (l : Loc) : readLoc (s.withPort moves) l = readLoc s l := by
  cases l <;> rfl

theorem busRead_of_locOf {a : Addr} {l : Loc} {s : State} (h : locOf s.conf a = some l) : busRead a s = s.withRdata (readLoc s l) := by
  rw [busRead, h]

/-- A read that completes, the host's other moves left to come. -/
theorem busRead_withPort {a : Addr} {l : Loc} {s : State} (moves : List HostMove) (h : locOf s.conf a = some l) :
    busRead a (s.withPort moves) = { s with port := moves, rdata := readLoc s l } := by
  rw [busRead_of_locOf (s := s.withPort moves) h, readLoc_withPort]
  rfl

/-- The host's next move reads a mapped address. -/
theorem step_read {s : State} {a : Addr} {rest : List HostMove} {l : Loc} (hbusy : s.busy = false)
    (hport : s.port = .read a :: rest) (h : locOf s.conf a = some l) :
    step s = .next { s with port := rest, rdata := readLoc s l } :=
  (step_of_idle hbusy hport).trans (congrArg _ (busRead_withPort rest h))

/-- The registers of one biquad section in the order of their addresses (10_state.md R44). -/
def sectionLocs (n : Fin 2) : List Loc :=
  [.bwA0 n, .bwA1 n, .bwA2 n, .bwB1 n, .bwB2 n, .bwX1 n, .bwX2 n, .bwY1 n, .bwY2 n, .bwN n, .bwWc n, .bwHp n]

/-- The named registers as runs of consecutive addresses (20_memory.md R60). -/
def regBlocks : List (Nat × List Loc) :=
  [(0x00000, [.id, .status, .ien, .errcode, .errinfo, .errval, .cmd, .cfgvalid, .srate, .basehz, .blklen, .blkctl, .x, .y]),
   (0x00010, (List.finRange 6).map .arg), (0x00020, (List.finRange 9).map .p), (0x00030, (List.finRange 9).map .ps),
   (0x00040, [.sineFreq, .sineInc, .sinePhase]), (0x00044, [.noiseIdx]), (0x00048, [.lp1K, .lp1Mem]), (0x0004C, [.dcrMem]),
   (0x00050, [.iir3Y1, .iir3Y2]), (0x00054, [.rclpDt, .rclpRc, .rclpAlpha, .rclpLast]),
   (0x00058, [.rcbpHpDt, .rcbpHpRc, .rcbpHpAlpha, .rcbpHpLast]), (0x0005C, [.rcbpLpDt, .rcbpLpRc, .rcbpLpAlpha, .rcbpLpLast]),
   (0x00060, [.moogF, .moogAf, .moogSqf, .moogFb, .moogRes]), (0x00068, (List.finRange 4).map .moogIn),
   (0x0006C, (List.finRange 4).map .moogOut), (0x00070, [.bwMode, .bwGain]), (0x00080, sectionLocs 0), (0x00090, sectionLocs 1),
   (0x000A0, [.harmCount, .harmBasef, .harmOffset, .harmCenter, .harmWidth, .harmMaster, .harmFinc]),
   (0x000B0, [.delayN, .delayFb, .delayLen, .delayCell])]

/-- Each register of a block is where the map has it. -/
theorem lookup_of_mem_regBlocks {b : Nat × List Loc} (hb : b ∈ regBlocks) {k : Nat} {l : Loc} (h : b.2[k]? = some l) :
    namedRegs.lookup (b.1 + k) = some l := by
  have hall : ∀ b ∈ regBlocks, ∀ k < b.2.length, namedRegs.lookup (b.1 + k) = b.2[k]? := by decide +kernel
  obtain ⟨hk, -⟩ := List.getElem?_eq_some_iff.1 h
  rw [hall b hb k hk, h]

theorem toNat_addr {n : Nat} {l : Loc} (h : namedRegs.lookup n = some l) : (BitVec.ofNat 18 n).toNat = n := by
  have hbelow : ∀ r ∈ namedRegs, r.1 < 2 ^ 18 := by decide
  rw [BitVec.toNat_ofNat, Nat.mod_eq_of_lt (hbelow (n, l) (mem_of_lookup h))]

theorem toList_eq_map_finRange {n : Nat} {α : Type} (v : Vector α n) : v.toList = (List.finRange n).map fun i => v[i] := by
  apply List.ext_getElem <;> simp

/-- Settles O30: the blocks are those of `regBlocks`, each register read where it lies. -/
theorem hostReadsRegisters : Obligations.HostReadsRegisters := by
  intro s rest hbusy ext sec leg blocks b hb k v hv hport
  have hblocks : blocks = regBlocks.map fun b => (b.1, b.2.map (readLoc s)) := by
    simp only [blocks, toList_eq_map_finRange]
    rfl
  rw [hblocks, List.mem_map] at hb
  obtain ⟨b, hmem, rfl⟩ := hb
  rw [List.getElem?_map, Option.map_eq_some_iff] at hv
  obtain ⟨l, hl, rfl⟩ := hv
  have hlookup := lookup_of_mem_regBlocks hmem hl
  exact step_read hbusy hport (locOf_of_lookup (by rwa [toNat_addr hlookup]))

/-- Settles O31: each window's element is where the map has it. -/
theorem hostReadsArrays : Obligations.HostReadsArrays := by
  intro s rest k hinv hbusy reads
  have hlegal := s.conf.wellFormed_iff_legal.1 hinv.conf
  have read {base : Nat} {l : Loc} (hlt : base + k < 2 ^ 18) (h : Reaches s.conf (base + k) l) : reads base (readLoc s l) :=
    fun hport => step_read hbusy hport (locOf_of_reaches hlegal (by rwa [BitVec.toNat_ofNat, Nat.mod_eq_of_lt hlt]))
  have hharm := hlegal.harmMax.2
  have hobuf := hlegal.obufDepth.2
  have hdelay := hlegal.delayMax.2
  refine ⟨fun hk => ⟨?_, ?_, ?_⟩, fun hk => ?_, fun hk => ?_, fun hk => ?_⟩
  · exact read (by omega) (.harmPhase hk rfl)
  · exact read (by omega) (.harmAmp hk rfl)
  · exact read (by omega) (.harmInc hk rfl)
  · exact read (by omega) (.obuf hk rfl)
  · have hvalue : (s.delay.fifo[k]?).getD 0#64 = readLoc s (.fifo k) := (List.getD_eq_getElem?_getD ..).symm
    rw [hvalue]
    exact read (by omega) (.fifo hk rfl)
  · have hquarter : 2 ^ s.conf.lutBits ≤ 2 ^ 17 := Nat.pow_le_pow_right (by decide) hlegal.lutBits.2
    exact read (by omega) (.sinq (Nat.lt_succ_of_le hk) rfl)

/-! ### Refused accesses -/

/-- Settles O28: a refused access is the bus error of its cause. -/
theorem busErrorsChangeOnlyTheRecord : Obligations.BusErrorsChangeOnlyTheRecord := by
  intro s a v rest hbusy
  refine ⟨fun hport h => ?_, fun hport h => ?_, fun l hport h hl => ?_⟩
  · rw [step_of_idle hbusy hport, idleMove, busWrite, withPort_conf, h]
    rfl
  · rw [step_of_idle hbusy hport, idleMove, busRead, withPort_conf, h]
    rfl
  · rw [step_of_idle hbusy hport, idleMove, busWrite, withPort_conf, h]
    simp only [hl]
    rfl

/-! ### A running block -/

/-- The core does not touch the host's moves. -/
theorem coreStep_port (s : State) : (coreStep s).port = s.port := by
  unfold coreStep sampleStep
  simp only
  split <;> rfl

theorem isParamAddr_eq_false {a : Addr} (h : a.toNat < 0x20 ∨ 0x28 < a.toNat) : isParamAddr a = false :=
  decide_eq_false (by omega)

/-- A held access leaves the step to the core. -/
theorem busyMove_of_held {m : HostMove} (rest : List HostMove) (s : State) (h : heldWhileBusy m = true) :
    busyMove m rest s = .next (coreStep s) := by
  cases m with
  | write a v =>
    have hparam : isParamAddr a = false := isParamAddr_eq_false (of_decide_eq_true h)
    simp [busyMove, hparam]
  | read a =>
    obtain ⟨hstatus, hout⟩ := of_decide_eq_true h
    have hparam : isParamAddr a = false := isParamAddr_eq_false hout
    have hne : a ≠ statusAddr := fun ha => hstatus (ha ▸ rfl)
    simp [busyMove, hparam, hne]
  | waitBlk => rfl
  | idle => cases h
  | reset => cases h

/-- A read of `STATUS` or of `P[0..8]` completes while a block runs. -/
theorem step_read_of_busy {s : State} {a : Addr} {rest : List HostMove} {l : Loc} (hbusy : s.busy = true)
    (hport : s.port = .read a :: rest) (hopen : isParamAddr a = true ∨ a = statusAddr) (h : namedRegs.lookup a.toNat = some l) :
    step s = .next { s with port := rest, rdata := readLoc s l } := by
  have hgate : (isParamAddr a || a == statusAddr) = true := by simpa using hopen
  rw [step_of_busy hbusy hport, busyMove, if_pos hgate, busRead_withPort rest (locOf_of_lookup h)]

/-- The place of `P[i]` in the map (10_state.md R26). -/
theorem lookup_param (i : Fin 9) : isParamAddr (BitVec.ofNat 18 (0x00020 + i)) = true ∧
    namedRegs.lookup (BitVec.ofNat 18 (0x00020 + i)).toNat = some (.p i) := by
  revert i
  decide

/-- Settles O34: an access the block lets through takes the step, a held one leaves it to the core. -/
theorem busyGating : Obligations.BusyGating := by
  intro s m rest hbusy hport
  refine ⟨fun hheld => ⟨?_, coreStep_port s⟩, ?_, ?_, ?_⟩
  · rw [step_of_busy hbusy hport, busyMove_of_held rest s hheld]
  · rintro rfl
    exact step_read_of_busy (l := .status) hbusy hport (.inr rfl) (by decide)
  · rintro i rfl
    obtain ⟨hparam, hlookup⟩ := lookup_param i
    exact step_read_of_busy hbusy hport (.inl hparam) hlookup
  · rintro i v rfl
    obtain ⟨hparam, hlookup⟩ := lookup_param i
    rw [step_of_busy hbusy hport, busyMove, if_pos hparam, busWrite_of_rw v (locOf_of_lookup hlookup) rfl]
    rfl

end Sys2Proof.Machine
end

section
/-! PROOF. The encoding of 30_encoding.md: fields and words are two forms of one thing, every command decodes from its own word, every word
with legal fields has its row, and no word has two. -/

namespace Sys2Proof

/-! ### Fields and words -/

/-- The six fields cover the word (R81). -/
@[simp] theorem toWord_fieldsOfWord (w : Word32) : (fieldsOfWord w).toWord = w := by
  ext k hk
  simp only [fieldsOfWord, CmdFields.toWord, BitVec.getElem_or, BitVec.getElem_setWidth, BitVec.getElem_shiftLeft,
    BitVec.getLsbD_extractLsb', BitVec.getLsbD_ofBool]
  interval_cases k <;> simp [BitVec.getLsbD_eq_getElem]

/-- A command's fields are legal and are read back from its word. -/
theorem legalFields (i : Instr) : Laws.LegalFields.Statement i :=
  match i with
  | .sineProc => Laws.LegalFields.sineProc
  | .sineCfg => Laws.LegalFields.sineCfg
  | .sineRst => Laws.LegalFields.sineRst
  | .noiseProc => Laws.LegalFields.noiseProc
  | .lp1Proc iny => Laws.LegalFields.lp1Proc iny
  | .lp1Cfg => Laws.LegalFields.lp1Cfg
  | .lp1Rst => Laws.LegalFields.lp1Rst
  | .dcrProc iny => Laws.LegalFields.dcrProc iny
  | .dcrRst => Laws.LegalFields.dcrRst
  | .iir3Proc iny => Laws.LegalFields.iir3Proc iny
  | .iir3Rst => Laws.LegalFields.iir3Rst
  | .rclpProc iny => Laws.LegalFields.rclpProc iny
  | .rclpCfg => Laws.LegalFields.rclpCfg
  | .rclpRst => Laws.LegalFields.rclpRst
  | .rcbpProc iny => Laws.LegalFields.rcbpProc iny
  | .rcbpCfg => Laws.LegalFields.rcbpCfg
  | .rcbpRst => Laws.LegalFields.rcbpRst
  | .moogProc sat iny => Laws.LegalFields.moogProc sat iny
  | .moogCfg => Laws.LegalFields.moogCfg
  | .moogRst => Laws.LegalFields.moogRst
  | .bwProc iny => Laws.LegalFields.bwProc iny
  | .bwCfg => Laws.LegalFields.bwCfg
  | .bwRst => Laws.LegalFields.bwRst
  | .bwCfgLp => Laws.LegalFields.bwCfgLp
  | .bwCfgHp => Laws.LegalFields.bwCfgHp
  | .bwCfgBp => Laws.LegalFields.bwCfgBp
  | .harmProc => Laws.LegalFields.harmProc
  | .harmCfg => Laws.LegalFields.harmCfg
  | .harmRst => Laws.LegalFields.harmRst
  | .delayProc iny => Laws.LegalFields.delayProc iny
  | .delayProcScLp1 iny => Laws.LegalFields.delayProcScLp1 iny
  | .delayProcScDcr iny => Laws.LegalFields.delayProcScDcr iny
  | .delayProcScIir3 iny => Laws.LegalFields.delayProcScIir3 iny
  | .delayProcScRclp iny => Laws.LegalFields.delayProcScRclp iny
  | .delayProcScRcbp iny => Laws.LegalFields.delayProcScRcbp iny
  | .delayProcScMoog sat iny => Laws.LegalFields.delayProcScMoog sat iny
  | .delayProcScBw iny => Laws.LegalFields.delayProcScBw iny
  | .delayCfg => Laws.LegalFields.delayCfg
  | .delayRst => Laws.LegalFields.delayRst
  | .delayProcNt iny => Laws.LegalFields.delayProcNt iny
  | .blkRun => Laws.LegalFields.blkRun
  | .sysNop => Laws.LegalFields.sysNop
  | .sysRstAll => Laws.LegalFields.sysRstAll

/-! ### Every command decodes from its own word -/

/-- A command's own row is the first its word matches, and reads its flags back (R84, R85). -/
theorem decode_encode (i : Instr) : decode (encode i) = .ok i := by
  cases i with
  | lp1Proc iny | dcrProc iny | iir3Proc iny | rclpProc iny | rcbpProc iny | bwProc iny | delayProc iny | delayProcScLp1 iny
  | delayProcScDcr iny | delayProcScIir3 iny | delayProcScRclp iny | delayProcScRcbp iny | delayProcScBw iny | delayProcNt iny =>
    cases iny <;> rfl
  | moogProc sat iny | delayProcScMoog sat iny => cases sat <;> cases iny <;> rfl
  | _ => rfl

/-- Settles O1: encoding undoes decoding (`encode_of_decode`), and decoding undoes encoding. -/
theorem decodeIffEncode : Obligations.DecodeIffEncode := by
  intro w i
  constructor
  · exact fun h => (encode_of_decode h).symm
  · rintro rfl
    exact decode_encode i

/-- Settles O3: six words are encodings, and no row matches the other four. -/
theorem sampleWordsDecode : Obligations.SampleWordsDecode :=
  ⟨decode_encode .sineProc, decode_encode (.lp1Proc true), decode_encode (.moogProc true true), decode_encode .bwCfgLp,
    decode_encode (.delayProcScMoog true false), decode_encode .blkRun, rfl, rfl, rfl, rfl⟩

/-! ### The rows are disjoint -/

/-- Some bit that both masks fix differs in the two patterns. -/
abbrev OpRow.Disjoint (r t : OpRow) : Prop := r.pattern &&& t.mask ≠ t.pattern &&& r.mask

theorem OpRow.Disjoint.not_both {r t : OpRow} (h : r.Disjoint t) {w : Word32} (hr : r.matchesWord w = true) :
    t.matchesWord w ≠ true := by
  intro ht
  have hrp : w &&& r.mask = r.pattern := eq_of_beq hr
  have htp : w &&& t.mask = t.pattern := eq_of_beq ht
  apply h
  rw [← hrp, ← htp, BitVec.and_assoc, BitVec.and_assoc, BitVec.and_comm r.mask]

theorem opRows_disjoint : opRows.Pairwise OpRow.Disjoint := by decide

/-- No word has two rows (R80). -/
theorem matchingRows_length_le (w : Word32) : (opRows.filter (fun r => r.matchesWord w)).length ≤ 1 := by
  have hdisjoint := opRows_disjoint.filter (fun r => r.matchesWord w)
  have hmatch : ∀ r ∈ opRows.filter (fun r => r.matchesWord w), r.matchesWord w = true := fun r hr => (List.mem_filter.1 hr).2
  match hrows : opRows.filter (fun r => r.matchesWord w) with
  | [] | [_] => rw [hrows]; simp
  | r :: t :: _ =>
    rw [hrows] at hdisjoint hmatch
    have hrt : r.Disjoint t := List.rel_of_pairwise_cons hdisjoint (by simp)
    exact absurd (hmatch t (by simp)) (hrt.not_both (hmatch r (by simp)))

/-! ### Every word with legal fields has its row -/

/-- The word is legal: some row is its own (R80). -/
abbrev HasRow (w : Word32) : Prop := ∃ r ∈ opRows, r.matchesWord w = true

theorem hasRow_iff_decode {w : Word32} : HasRow w ↔ ∃ i, decode w = .ok i := by
  unfold decode
  constructor
  · intro h
    obtain ⟨r, hr⟩ := Option.isSome_iff_exists.1 (List.find?_isSome.2 h)
    exact ⟨_, by rw [hr]⟩
  · rintro ⟨i, hi⟩
    split at hi
    · next r hr => exact ⟨r, List.mem_of_find?_eq_some hr, List.find?_some (p := fun r : OpRow => r.matchesWord w) hr⟩
    · cases hi

/-- The side-chain commands: every side-chain, with `INY` free and `SAT` where the ladder is named (R84, R85, R86). -/
theorem hasRow_delayProc : ∀ (sat iny : Bool) (sc : BitVec 4),
    let f : CmdFields := ⟨opProc, DspUnit.delay.code, sat, iny, sc, 0⟩
    f.satLegal = true → f.scLegal = true → HasRow f.toWord := by decide

theorem hasRow_moogProc : ∀ sat iny : Bool, HasRow (CmdFields.mk opProc DspUnit.moog.code sat iny 0 0).toWord := by decide

/-- The operations of every unit (R82, R83), with `INY` where it is legal (R85). -/
theorem hasRow_inyOnly : ∀ (op unit : BitVec 4) (iny : Bool),
    let f : CmdFields := ⟨op, unit, false, iny, 0, 0⟩
    f.opExists = true → f.inyLegal = true → HasRow f.toWord := by decide

/-- Legal fields are those of a row: `SC` is 0 but in `DELAY.PROC`, and then `SAT` is 0 but in `MOOG.PROC` (R82 to R87). -/
theorem hasRow_of_wellFormed {f : CmdFields} (h : f.wellFormed = true) : HasRow f.toWord := by
  obtain ⟨op, unit, sat, iny, sc, rsv⟩ := f
  simp only [CmdFields.wellFormed, Bool.and_eq_true] at h
  obtain ⟨⟨⟨⟨hop, hsat⟩, hiny⟩, hsc⟩, hrsv⟩ := h
  obtain rfl : rsv = 0 := eq_of_beq hrsv
  by_cases hdelay : unit = DspUnit.delay.code ∧ op = opProc
  · obtain ⟨rfl, rfl⟩ := hdelay
    exact hasRow_delayProc sat iny sc hsat hsc
  obtain rfl : sc = 0 := by simpa [CmdFields.scLegal, CmdFields.isDelayProc, hdelay] using hsc
  by_cases hmoog : unit = DspUnit.moog.code ∧ op = opProc
  · obtain ⟨rfl, rfl⟩ := hmoog
    exact hasRow_moogProc sat iny
  obtain rfl : sat = false := by simpa [CmdFields.satLegal, CmdFields.isDelayProc, hdelay, hmoog] using hsat
  exact hasRow_inyOnly op unit iny hop hiny

/-- A word has a row exactly when its fields are legal (R80, R82 to R87, R89). -/
theorem hasRow_iff_wellFormed {w : Word32} : HasRow w ↔ (fieldsOfWord w).wellFormed = true := by
  constructor
  · intro h
    obtain ⟨i, hi⟩ := hasRow_iff_decode.1 h
    obtain ⟨hlegal, hfields⟩ := legalFields i
    rw [← encode_of_decode hi, hfields]
    exact hlegal
  · intro h
    rw [← toWord_fieldsOfWord w]
    exact hasRow_of_wellFormed h

/-- Settles O2: a word has a row exactly when its fields are legal, and never two. -/
theorem legalWordIffLegalFields : Obligations.LegalWordIffLegalFields := by
  refine ⟨rfl, fun w => ⟨hasRow_iff_decode.symm.trans hasRow_iff_wellFormed, ?_⟩⟩
  have hpos : 0 < (opRows.filter (fun r => r.matchesWord w)).length ↔ (fieldsOfWord w).wellFormed = true := by
    rw [← hasRow_iff_wellFormed, List.length_filter_pos_iff]
  have hle := matchingRows_length_le w
  split
  · next hlegal =>
    have := hpos.2 hlegal
    omega
  · next hillegal =>
    have := mt hpos.1 hillegal
    omega

end Sys2Proof

namespace Sys2Proof.Machine

/-! ### The side-chains of the delay line -/

/-- A filter reads its input and not `X`, and leaves `X`. -/
theorem sideProcess_withX (sc : SideChain) (sat : Bool) (t x : Num64) (s : State) :
    sideProcess sc sat t { s with x := x } = ((sideProcess sc sat t s).1, { (sideProcess sc sat t s).2 with x := x }) := by
  cases sc <;> rfl

/-- What `DELAY.PROC` writes after the side-chain has worked on `t`. -/
theorem delayFinish_sideProcess (sc : SideChain) (sat : Bool) (t d : Num64) (rest : List Num64) (s : State) :
    delayFinish (d, rest) (sideProcess sc sat t s).1 (sideProcess sc sat t s).2 =
      { (sideProcess sc sat t s).2 with
        x := s.x, y := d, delay := { s.delay with fifo := rest ++ [(sideProcess sc sat t s).1] } } := by
  cases sc <;> rfl

/-- A configured filter's `PROC` with the input in `X`. -/
theorem exec_filterProc_withX (sc : SideChain) (sat : Bool) (t : Num64) {s : State} (hs : s.configured sc.unit = true) :
    exec (filterProc sat false sc) { s with x := t } =
      .next { (sideProcess sc sat t s).2 with x := t, y := (sideProcess sc sat t s).1 } := by
  have hinput : inputSample false { s with x := t } = t := rfl
  rw [exec_filterProc sc sat false { s with x := t } hs, hinput, sideProcess_withX]
  rfl

/-- `DELAY.PROC` with a side-chain is the side-chain's own `PROC` on the total in `X`; what it returns is pushed, `X` is as before and
`Y` receives the delayed sample (46_delay.md R218, R221). -/
theorem exec_delayProcWith_of_filterProc (sc : SideChain) (sat iny : Bool) {s : State} (h : s.configured .delay = true)
    (hs : s.configured sc.unit = true) {d : Num64} {rest : List Num64} (htake : delayTake s.delay = (d, rest)) :
    ∃ u, exec (filterProc sat false sc) { s with x := F64.add (inputSample iny s) (F64.mul s.delay.fb d) } = .next u ∧
      exec (delayProcWith sat iny sc) s =
        .next { u with x := s.x, y := d, delay := { s.delay with fifo := rest ++ [u.y] } } := by
  refine ⟨_, exec_filterProc_withX sc sat _ hs, ?_⟩
  rw [exec_delayProcWith sc sat iny s h hs, delayProcessSc, delayTotal, htake, delayFinish_sideProcess]

/-- Settles O22: the words by evaluation, the two states of the line by what `delayTake` gives in each. -/
theorem delaySideChains : Obligations.DelaySideChains := by
  refine ⟨by decide, rfl, rfl, rfl, rfl, rfl, rfl, rfl, rfl, ?_⟩
  refine fun s sc sat iny h hs => ⟨fun hfilling => ?_, fun d rest hfifo hfull => ?_⟩
  · exact exec_delayProcWith_of_filterProc sc sat iny h hs (delayTake_of_filling hfilling)
  · exact exec_delayProcWith_of_filterProc sc sat iny h hs (delayTake_of_full hfifo hfull)

end Sys2Proof.Machine
end

section
/-! PROOF. One rounding for every operation: a number that is the nearest multiple of its quantum, with its sign, rounds as 40_function_units.md
R100 says, and keeps the order. -/

namespace Sys2Proof.F64

/-! ### The nearest multiple of a quantum -/

/-- `M * 2^k` is what the real `x` (in units of `2^-1074`) rounds to: a significand and a quantum to which `x` rounds, the quantum the
least that leaves 53 bits, an even significand at a tie. -/
structure Nearest (x : ℝ) (k M : Nat) : Prop extends Rounded x k M where
  fits : x < 2 ^ 53 * 2 ^ k
  even : 2 * x = (2 * M - 1) * 2 ^ k ∨ 2 * x = (2 * M + 1) * 2 ^ k → M % 2 = 0

theorem Nearest.significand_le {x : ℝ} {k M : Nat} (h : Nearest x k M) : M ≤ 2 ^ 53 := by
  have hpow : (0 : ℝ) < 2 ^ k := by positivity
  have hreal : (2 * M - 1 : ℝ) * 2 ^ k < 2 ^ 54 * 2 ^ k := by linarith [h.lower, h.fits]
  have hlt : (2 * M : ℝ) < 2 ^ 54 + 1 := by linarith [lt_of_mul_lt_mul_right hreal hpow.le]
  have hnat : 2 * M < 2 ^ 54 + 1 := by exact_mod_cast hlt
  omega

theorem nearest_zero : Nearest 0 0 0 where
  lower := by norm_num
  upper := by norm_num
  normal := .inl rfl
  nonneg := le_rfl
  fits := by norm_num
  even _ := rfl

/-- `roundMag` finds the nearest multiple of the quantum, or an infinity past the greatest. -/
theorem roundMag_nearest (n : Nat) {d : Nat} (hd : 0 < d) :
    ∃ k M, roundMag n d = min (k * 2 ^ 52 + M) infBits ∧ Nearest (n / d) k M := by
  obtain ⟨k, M, hround, hlow, hhigh, hM, hM', htie⟩ := roundMag_spec n hd
  have hd' : (0 : ℝ) < d := by exact_mod_cast hd
  have hx : (n / d : ℝ) * d = n := div_mul_cancel₀ _ hd'.ne'
  have hhigh' : (n : ℝ) < 2 ^ 53 * (2 ^ k * d) := by exact_mod_cast hhigh
  have hM1 : (2 * M * (2 ^ k * d) : ℝ) ≤ 2 * n + 2 ^ k * d := by exact_mod_cast hM
  have hM2 : (2 * n : ℝ) ≤ (2 * M + 1) * (2 ^ k * d) := by exact_mod_cast hM'
  refine ⟨k, M, hround, ⟨?_, ?_, hlow.imp_right fun h => ?_, by positivity⟩, ?_, fun h => htie ?_⟩
  · refine le_of_mul_le_mul_right ?_ hd'
    linarith
  · refine le_of_mul_le_mul_right ?_ hd'
    linarith
  · have h' : (2 ^ 52 * (2 ^ k * d) : ℝ) ≤ n := by exact_mod_cast h
    refine le_of_mul_le_mul_right ?_ hd'
    linarith
  · refine lt_of_mul_lt_mul_right ?_ hd'.le
    linarith
  · have hcast : ((2 * M * (2 ^ k * d) : ℝ) = 2 * n + 2 ^ k * d) ∨ ((2 * n : ℝ) = (2 * M + 1) * (2 ^ k * d)) := by
      refine h.imp (fun h => ?_) fun h => ?_
      · linear_combination (-(d : ℝ)) * h + 2 * hx
      · linear_combination (d : ℝ) * h - 2 * hx
    exact_mod_cast hcast

/-- The pattern grows with the number rounded. -/
theorem Nearest.mono {x y : ℝ} {k M l N : Nat} (hx : Nearest x k M) (hy : Nearest y l N) (h : x ≤ y) :
    k * 2 ^ 52 + M ≤ l * 2 ^ 52 + N := by
  have hM := hx.significand_le
  have hN := hy.significand
  rcases lt_trichotomy k l with hlt | rfl | hgt
  · omega
  · rw [Nat.add_le_add_iff_left]
    by_contra hMN
    have hpow : (0 : ℝ) < 2 ^ k := by positivity
    have hstep : ((N : ℝ) + 1) * 2 ^ k ≤ M * 2 ^ k := by
      gcongr
      exact_mod_cast not_le.1 hMN
    have hlow := hx.lower
    have hup := hy.upper
    have htop : 2 * x = (2 * M - 1) * 2 ^ k := by linarith
    have hbot : 2 * y = (2 * N + 1) * 2 ^ k := by linarith
    have hsame : ((N : ℝ) + 1) * 2 ^ k = M * 2 ^ k := by linarith
    have hsucc : N + 1 = M := by exact_mod_cast mul_right_cancel₀ hpow.ne' hsame
    have := hx.even (.inl htop)
    have := hy.even (.inr hbot)
    omega
  · have hnormal := hx.normal.resolve_left (by omega)
    have hpow : (2 : ℝ) ^ (l + 1) ≤ 2 ^ k := pow_le_pow_right₀ one_le_two hgt
    rw [pow_succ] at hpow
    linarith [hy.fits]

/-- Another value of a magnitude pattern as near as the rounding leaves an even significand. -/
theorem Nearest.even_of_magScale {x : ℝ} {k M m : Nat} (h : Nearest x k M) (hne : (magScale m : ℝ) ≠ M * 2 ^ k)
    (htie : |x - magScale m| = |x - M * 2 ^ k|) : M % 2 = 0 := by
  have hmid : 2 * x = magScale m + M * 2 ^ k := by
    obtain heq | heq := abs_eq_abs.1 htie
    · exact absurd (by linarith) hne
    · linarith
  obtain ⟨j, hj⟩ | ⟨hk, hm⟩ := magScale_grid m k
  · have hj' : (magScale m : ℝ) = j * 2 ^ k := by exact_mod_cast hj
    have hpow : (0 : ℝ) < 2 ^ k := by positivity
    rw [hj'] at hmid hne
    have hlow : ((2 * M - 1 : ℝ)) * 2 ^ k ≤ (j + M) * 2 ^ k := by linarith [h.lower]
    have hup : ((j + M : ℝ)) * 2 ^ k ≤ (2 * M + 1) * 2 ^ k := by linarith [h.upper]
    have hlow' : M ≤ j + 1 := by
      have := le_of_mul_le_mul_right hlow hpow
      exact_mod_cast (by linarith : (M : ℝ) ≤ j + 1)
    have hup' : j ≤ M + 1 := by
      have := le_of_mul_le_mul_right hup hpow
      exact_mod_cast (by linarith : (j : ℝ) ≤ M + 1)
    have hjM : j ≠ M := fun heq => hne (by rw [heq])
    rcases Nat.lt_or_gt_of_ne hjM with hlt | hgt
    · obtain rfl : M = j + 1 := by omega
      refine h.even (.inl ?_)
      push_cast at hmid ⊢
      linarith
    · obtain rfl : j = M + 1 := by omega
      refine h.even (.inr ?_)
      push_cast at hmid ⊢
      linarith
  · have hnormal := h.normal.resolve_left hk.ne'
    have hm' : (magScale m : ℝ) < 2 ^ 52 * 2 ^ k := by exact_mod_cast hm
    have hedge := h.le_of_multiple (2 ^ 52)
    rw [Nat.cast_pow, Nat.cast_ofNat, abs_of_nonneg (sub_nonneg.2 hnormal), ← htie, abs_of_pos (by linarith)] at hedge
    linarith

/-- Half a unit in the last place past the greatest finite value, in units of `2^-1074`. -/
theorem overflowBound_scaled : overflowBound * 2 ^ 1074 = (2 ^ 54 - 1) * 2 ^ 2044 := by
  rw [overflowBound, sub_mul, sub_mul, ← pow_add, ← pow_add, ← pow_add, one_mul]

/-- The pattern reaches the infinity exactly from the overflow bound on. -/
theorem Nearest.infBits_le_iff {x : ℝ} {k M : Nat} (h : Nearest x k M) :
    infBits ≤ k * 2 ^ 52 + M ↔ (2 ^ 54 - 1) * 2 ^ 2044 ≤ x := by
  have hM := h.significand_le
  have hfull := h.significand
  have hfits := h.fits
  have hbelow (hk : k < 2045) : (2 : ℝ) ^ k ≤ 2 ^ 2044 := pow_le_pow_right₀ one_le_two (by omega)
  have hat (hk : k = 2045) : (2 : ℝ) ^ k = 2 * 2 ^ 2044 := hk ▸ pow_succ' _ _
  have habove (hk : 2045 < k) : 4 * (2 : ℝ) ^ 2044 ≤ 2 ^ k := by
    have hsplit : 4 * (2 : ℝ) ^ 2044 = 2 ^ 2046 := by rw [pow_add _ 2 2044]; norm_num
    rw [hsplit]
    exact pow_le_pow_right₀ one_le_two hk
  have hunit : (0 : ℝ) < 2 ^ 2044 := by positivity
  generalize (2 : ℝ) ^ 2044 = u at *
  unfold infBits
  rcases Nat.lt_trichotomy k 2045 with hlt | hk | hgt
  · refine iff_of_false (by omega) fun hx => ?_
    linarith [hbelow hlt]
  · have hlow := h.lower
    have hup := h.upper
    have heven := h.even
    rw [hat hk] at hlow hup heven
    subst hk
    constructor <;> intro hx
    · obtain rfl : M = 2 ^ 53 := by omega
      push_cast at hlow
      linarith
    · by_contra hsmall
      have hM' : M + 1 ≤ 2 ^ 53 := by omega
      have hMr : (M : ℝ) + 1 ≤ 2 ^ 53 := by exact_mod_cast hM'
      have hprod : ((M : ℝ) + 1) * u ≤ 2 ^ 53 * u := mul_le_mul_of_nonneg_right hMr hunit.le
      have htie := heven (.inr (by linarith))
      have hsame : ((M : ℝ) + 1) * u = 2 ^ 53 * u := by linarith
      have hsucc : M + 1 = 2 ^ 53 := by exact_mod_cast mul_right_cancel₀ hunit.ne' hsame
      omega
  · refine iff_of_true (by omega) ?_
    linarith [h.normal.resolve_left (by omega), habove hgt]

/-! ### Signed numbers -/

/-- The real `r` with the sign `b` given to it. -/
def signed (b : Bool) (r : ℝ) : ℝ := if b then -r else r

@[simp] theorem signed_false (r : ℝ) : signed false r = r := rfl
@[simp] theorem signed_true (r : ℝ) : signed true r = -r := rfl
@[simp] theorem signed_zero (b : Bool) : signed b 0 = 0 := by cases b <;> simp

theorem signed_bne (a b : Bool) (r s : ℝ) : signed (a != b) (r * s) = signed a r * signed b s := by
  cases a <;> cases b <;> simp

theorem abs_signed_sub_signed (b : Bool) (r s : ℝ) : |signed b r - signed b s| = |r - s| := by
  cases b
  · rfl
  · rw [signed_true, signed_true, neg_sub_neg, abs_sub_comm]

theorem signed_mul_right (b : Bool) (r s : ℝ) : signed b r * s = signed b (r * s) := by
  cases b <;> simp

theorem signed_inj {b : Bool} {r s : ℝ} : signed b r = signed b s ↔ r = s := by
  cases b <;> simp

theorem abs_eq_signed {b : Bool} {r : ℝ} (h : 0 ≤ signed b r) : |r| = signed b r := by
  rw [← abs_of_nonneg h]
  simpa using (abs_signed_sub_signed b r 0).symm

theorem scaled_eq_signed (z : Num64) : (scaled z : ℝ) = signed (neg z) (magScale (mag z)) := by
  unfold scaled
  rw [scaledMag_eq]
  cases neg z <;> simp

theorem value_mul_unit (z : Num64) : (value z : ℝ) * 2 ^ 1074 = scaled z := by
  rw [value_cast]
  exact div_mul_cancel₀ _ (by positivity)

theorem value_inj_scaled {y z : Num64} : value y = value z ↔ (scaled y : ℝ) = scaled z := by
  rw [← value_mul_unit, ← value_mul_unit, mul_left_inj' (by positivity), Rat.cast_inj]

theorem value_le_iff_scaled {y z : Num64} : value y ≤ value z ↔ scaled y ≤ scaled z := by
  unfold value
  rw [div_le_div_iff_of_pos_right (by positivity), Int.cast_le]

/-- With either sign, the value of a `NUM` is that of one. -/
theorem signed_scaled (b : Bool) (y : Num64) : ∃ y' : Num64, signed b (scaled y) = scaled y' := by
  cases b
  · exact ⟨y, rfl⟩
  · exact ⟨negate y, by rw [scaled_negate, Int.cast_neg]; rfl⟩

theorem Nearest.even_of_scaled {x : ℝ} {k M : Nat} (h : Nearest x k M) {y : Num64} (hne : (scaled y : ℝ) ≠ M * 2 ^ k)
    (htie : |x - scaled y| = |x - M * 2 ^ k|) : M % 2 = 0 := by
  rw [scaled_eq_signed] at hne htie
  cases hneg : neg y with
  | false =>
    rw [hneg, signed_false] at hne htie
    exact h.even_of_magScale hne htie
  | true =>
    rw [hneg, signed_true] at hne htie
    have hzero := h.le_of_magScale 0
    have hnonneg := h.nonneg
    have hy : (0 : ℝ) ≤ magScale (mag y) := by positivity
    rw [magScale_zero, Nat.cast_zero, sub_zero, ← htie, sub_neg_eq_add, abs_of_nonneg hnonneg,
      abs_of_nonneg (by linarith)] at hzero
    have hy0 : (magScale (mag y) : ℝ) = 0 := by linarith
    rw [hy0, neg_zero] at hne htie
    exact h.even_of_magScale (m := 0) (by rwa [magScale_zero, Nat.cast_zero]) (by rwa [magScale_zero, Nat.cast_zero])

theorem getLsbD_zero_eq (z : Num64) : z.getLsbD 0 = decide (mag z % 2 = 1) := by
  have hmod : mag z % 2 = z.toNat % 2 := by
    unfold mag
    omega
  rw [hmod, BitVec.getLsbD, Nat.testBit_zero]

/-! ### A number that is the rounding of a real -/

/-- `z` is joined from the sign of `r` and the nearest multiple of the quantum, capped at the infinity; of a zero `r`, any sign. -/
def IsRounding (r : ℝ) (z : Num64) : Prop :=
  ∃ k M, mag z = min (k * 2 ^ 52 + M) infBits ∧ Nearest (signed (neg z) r * 2 ^ 1074) k M

theorem isRounding_mk {r : ℝ} {b : Bool} {n d : Nat} (hd : 0 < d) (h : signed b r * 2 ^ 1074 = n / d) :
    IsRounding r (mk b (roundMag n d)) := by
  obtain ⟨k, M, hround, hnear⟩ := roundMag_nearest n hd
  refine ⟨k, M, ?_, ?_⟩
  · rw [mag_mk b (roundMag_lt n d), hround]
  · rwa [neg_mk b (roundMag_lt n d), h]

theorem isRounding_zero {z : Num64} (h : isZero z = true) : IsRounding 0 z :=
  ⟨0, 0, of_decide_eq_true h, by simpa using nearest_zero⟩

theorem IsRounding.isNaN_eq_false {r : ℝ} {z : Num64} (h : IsRounding r z) : isNaN z = false := by
  obtain ⟨k, M, hmag, -⟩ := h
  exact decide_eq_false (by omega)

/-- Such a number is the exact result rounded once (40_function_units.md R100). -/
theorem IsRounding.roundsTo {r : ℝ} {z : Num64} (h : IsRounding r z) : RoundsTo r z := by
  obtain ⟨k, M, hmag, hnear⟩ := h
  have hunit : (0 : ℝ) < 2 ^ 1074 := by positivity
  have hnonneg : 0 ≤ signed (neg z) r := nonneg_of_mul_nonneg_left hnear.nonneg hunit
  have hbound : overflowBound ≤ |r| ↔ infBits ≤ k * 2 ^ 52 + M := by
    rw [hnear.infBits_le_iff, ← overflowBound_scaled, mul_le_mul_iff_left₀ hunit, abs_eq_signed hnonneg]
  have hfinite (hr : |r| < overflowBound) : mag z = k * 2 ^ 52 + M ∧ k * 2 ^ 52 + M < infBits := by
    rw [← not_le, hbound, not_le] at hr
    exact ⟨hmag.trans (Nat.min_eq_left hr.le), hr⟩
  have hdist (y : Num64) : |r - value y| * 2 ^ 1074 = |signed (neg z) r * 2 ^ 1074 - signed (neg z) (scaled y)| := by
    rw [signed_mul_right, abs_signed_sub_signed, ← value_mul_unit, ← sub_mul, abs_mul, abs_of_pos hunit]
  have hscaled (hr : |r| < overflowBound) : signed (neg z) (scaled z) = M * 2 ^ k := by
    rw [scaled_eq_signed, (hfinite hr).1, magScale_join hnear.significand_le hnear.significand]
    cases neg z <;> simp
  refine ⟨fun hr => ?_, fun hr => ?_, fun hr y _ => ?_, fun hr y _ hne htie => ?_, fun hr => ?_⟩
  · exact decide_eq_true (hmag.trans (Nat.min_eq_right (hbound.1 hr)))
  · exact decide_eq_true ((hfinite hr).1.trans_lt (hfinite hr).2)
  · refine le_of_mul_le_mul_right ?_ hunit
    obtain ⟨y', hy'⟩ := signed_scaled (neg z) y
    rw [hdist, hdist, hscaled hr, hy']
    exact hnear.le_of_scaled y'
  · obtain ⟨y', hy'⟩ := signed_scaled (neg z) y
    have heven : M % 2 = 0 := by
      refine hnear.even_of_scaled (y := y') ?_ ?_
      · rw [← hy', ← hscaled hr, Ne, signed_inj]
        exact fun heq => hne (value_inj_scaled.2 heq)
      · rw [← hy', ← hscaled hr, ← hdist, ← hdist, htie]
    rw [getLsbD_zero_eq, (hfinite hr).1]
    exact decide_eq_false (by omega)
  · generalize neg z = b at hnonneg
    cases b with
    | false => exact (decide_eq_false (not_lt.2 hnonneg)).symm
    | true => exact (decide_eq_true ((neg_nonneg.1 hnonneg).lt_of_ne hr)).symm

/-- Rounding is monotone (40_function_units.md R103). -/
theorem IsRounding.le {r s : ℝ} {z w : Num64} (hz : IsRounding r z) (hw : IsRounding s w) (h : r ≤ s) : le z w = true := by
  rw [F64.le_iff]
  refine ⟨hz.isNaN_eq_false, hw.isNaN_eq_false, ?_⟩
  obtain ⟨k, M, hmag, hnear⟩ := hz
  obtain ⟨l, N, hmag', hnear'⟩ := hw
  have hunit : (0 : ℝ) < 2 ^ 1074 := by positivity
  have hscale : r * 2 ^ 1074 ≤ s * 2 ^ 1074 := mul_le_mul_of_nonneg_right h hunit.le
  generalize (2 : ℝ) ^ 1074 = u at *
  unfold key
  cases hb : neg z <;> cases hc : neg w <;>
    simp only [hb, hc, signed_false, signed_true, Bool.false_eq_true, if_true, if_false] at hnear hnear' ⊢
  · have := hnear.mono hnear' hscale
    omega
  · have hs := hnear'.nonneg
    have := hnear.mono nearest_zero (by linarith)
    have := hnear'.mono nearest_zero (by linarith [hnear.nonneg])
    omega
  · omega
  · have := hnear'.mono hnear (by linarith)
    omega

/-- A finite number is its own rounding. -/
theorem isRounding_value {z : Num64} (hfin : isFinite z = true) : IsRounding (value z) z := by
  have hmag : mag z < infBits := of_decide_eq_true hfin
  have hx : signed (neg z) (value z) * 2 ^ 1074 = magScale (mag z) := by
    rw [signed_mul_right, value_mul_unit, scaled_eq_signed]
    cases neg z <;> simp
  have hexact {k M : Nat} (hjoin : mag z = k * 2 ^ 52 + M) (hM : M < 2 ^ 53) (hk : k = 0 ∨ 2 ^ 52 ≤ M) : IsRounding (value z) z := by
    refine ⟨k, M, by omega, ?_⟩
    have hpow : (0 : ℝ) < 2 ^ k := by positivity
    have hMr : (M : ℝ) < 2 ^ 53 := by exact_mod_cast hM
    rw [hx, hjoin, magScale_join hM.le hk, Nat.cast_mul, Nat.cast_pow, Nat.cast_ofNat]
    refine ⟨⟨by linarith, by linarith, hk.imp_right fun h => ?_, by positivity⟩, mul_lt_mul_of_pos_right hMr hpow, ?_⟩
    · have : (2 : ℝ) ^ 52 ≤ M := by exact_mod_cast h
      exact mul_le_mul_of_nonneg_right this hpow.le
    · rintro (htie | htie) <;> exact absurd htie (by linarith)
  obtain hsub | ⟨e, f, hf, hnormal⟩ := mag_cases (mag z)
  · exact hexact (k := 0) (M := mag z) (by omega) (by omega) (.inl rfl)
  · exact hexact (k := e) (M := 2 ^ 52 + f) (hnormal.trans (by ring)) (by omega) (.inr (by omega))

theorem value_le_of_le {y z : Num64} (h : le y z = true) : value y ≤ value z := value_le_iff_scaled.2 (scaled_le_of_le h)

/-- The rounding of a number that a `NUM` holds is that number. -/
theorem IsRounding.exact {r : ℝ} {y z : Num64} (h : IsRounding r z) (hy : isFinite y = true) (hr : r = value y) :
    isFinite z = true ∧ value z = value y := by
  have hself := isRounding_value hy
  have hle := h.le hself hr.le
  have hge := hself.le h hr.ge
  refine ⟨?_, (value_le_of_le hle).antisymm (value_le_of_le hge)⟩
  have hkey := (F64.le_iff.1 hle).2.2.antisymm (F64.le_iff.1 hge).2.2
  have hmag : mag z = mag y := by
    unfold key at hkey
    cases hb : neg z <;> cases hc : neg y <;>
      simp only [hb, hc, Bool.false_eq_true, if_true, if_false] at hkey <;> omega
  rwa [isFinite, hmag]

end Sys2Proof.F64
end

section
/-! PROOF. The four operations, the comparisons and the integer conversions of 40_function_units.md R100 to R104 by the one rounding. -/

namespace Sys2Proof.F64

/-! ### Values -/

theorem signed_value_mul_unit (z : Num64) : signed (neg z) (value z) * 2 ^ 1074 = scaledMag z := by
  rw [signed_mul_right, value_mul_unit, scaled_eq_signed, scaledMag_eq]
  cases neg z <;> simp

theorem signed_value (z : Num64) : signed (neg z) (value z) = scaledMag z / 2 ^ 1074 := by
  rw [eq_div_iff (by positivity), signed_value_mul_unit]

theorem signed_inv (b : Bool) (r : ℝ) : signed b r⁻¹ = (signed b r)⁻¹ := by
  cases b <;> simp [inv_neg]

theorem signed_int (v : Int) : signed (decide (v < 0)) (v : ℝ) = v.natAbs := by
  rw [Nat.cast_natAbs]
  by_cases h : v < 0
  · rw [decide_eq_true h, abs_of_neg h, Int.cast_neg]
    rfl
  · rw [decide_eq_false h, abs_of_nonneg (not_lt.1 h)]
    rfl

theorem scaledMag_eq_zero_iff (z : Num64) : scaledMag z = 0 ↔ isZero z = true := by
  have hinj : magScale (mag z) = magScale 0 ↔ mag z = 0 := magScale_strictMono.injective.eq_iff
  rwa [magScale_zero, ← scaledMag_eq, ← decide_eq_true_iff (p := mag z = 0)] at hinj

theorem scaled_eq_zero_iff (z : Num64) : scaled z = 0 ↔ isZero z = true := by
  rw [← scaledMag_eq_zero_iff, scaled]
  split <;> omega

theorem value_eq_zero_iff (z : Num64) : value z = 0 ↔ isZero z = true := by
  rw [← scaled_eq_zero_iff, value, div_eq_zero_iff, Int.cast_eq_zero]
  exact or_iff_left (by positivity)

@[simp] theorem isFinite_negate (z : Num64) : isFinite (negate z) = isFinite z := by rw [isFinite, isFinite, mag_negate]
@[simp] theorem isNaN_negate (z : Num64) : isNaN (negate z) = isNaN z := by rw [isNaN, isNaN, mag_negate]
@[simp] theorem isInf_negate (z : Num64) : isInf (negate z) = isInf z := by rw [isInf, isInf, mag_negate]

theorem value_negate (z : Num64) : value (negate z) = -value z := by
  rw [value, value, scaled_negate, Int.cast_neg, neg_div]

/-- The sum of two values in units of `2^-1074`. -/
theorem value_add_value_mul_unit (a b : Num64) : ((value a : ℝ) + value b) * 2 ^ 1074 = ((scaled a + scaled b : Int) : ℝ) := by
  rw [add_mul, value_mul_unit, value_mul_unit, Int.cast_add]

theorem value_add_eq_zero_iff (a b : Num64) : value a + value b = 0 ↔ scaled a + scaled b = 0 := by
  rw [value, value, ← add_div, div_eq_zero_iff, ← Int.cast_add, Int.cast_eq_zero]
  exact or_iff_left (by positivity)

/-! ### Finite operands -/

theorem add_of_finite {a b : Num64} (ha : isFinite a = true) (hb : isFinite b = true) :
    add a b = if scaled a + scaled b = 0 then mk (neg a && neg b) 0
      else mk (decide (scaled a + scaled b < 0)) (roundMag (scaled a + scaled b).natAbs 1) := by
  simp only [add, isNaN_eq_false_of_isFinite ha, isNaN_eq_false_of_isFinite hb, isInf_eq_false_of_isFinite ha,
    isInf_eq_false_of_isFinite hb, Bool.or_self, Bool.false_eq_true, if_false]

theorem mul_of_finite {a b : Num64} (ha : isFinite a = true) (hb : isFinite b = true) :
    mul a b = mk (neg a != neg b) (roundMag (scaledMag a * scaledMag b) (2 ^ 1074)) := by
  simp only [mul, isNaN_eq_false_of_isFinite ha, isNaN_eq_false_of_isFinite hb, isInf_eq_false_of_isFinite ha,
    isInf_eq_false_of_isFinite hb, Bool.or_self, Bool.false_eq_true, if_false]

theorem div_of_finite {a b : Num64} (ha : isFinite a = true) (hb : isFinite b = true) (hzero : isZero b = false) :
    div a b = mk (neg a != neg b) (roundMag (scaledMag a * 2 ^ 1074) (scaledMag b)) := by
  simp only [div, isNaN_eq_false_of_isFinite ha, isNaN_eq_false_of_isFinite hb, isInf_eq_false_of_isFinite ha,
    isInf_eq_false_of_isFinite hb, hzero, Bool.or_self, Bool.false_eq_true, if_false]

theorem isRounding_add {a b : Num64} (ha : isFinite a = true) (hb : isFinite b = true) :
    IsRounding ((value a : ℝ) + value b) (add a b) := by
  rw [add_of_finite ha hb]
  split
  · next h =>
    have hsum : (value a : ℝ) + value b = 0 := by exact_mod_cast (value_add_eq_zero_iff a b).2 h
    rw [hsum]
    exact isRounding_zero (by cases neg a && neg b <;> decide)
  · refine isRounding_mk Nat.one_pos ?_
    rw [signed_mul_right, value_add_value_mul_unit, signed_int, Nat.cast_one, div_one]

theorem isRounding_sub {a b : Num64} (ha : isFinite a = true) (hb : isFinite b = true) :
    IsRounding ((value a : ℝ) - value b) (sub a b) := by
  have h := isRounding_add ha ((isFinite_negate b).trans hb)
  rwa [value_negate, Rat.cast_neg, ← sub_eq_add_neg] at h

theorem isRounding_mul {a b : Num64} (ha : isFinite a = true) (hb : isFinite b = true) :
    IsRounding ((value a : ℝ) * value b) (mul a b) := by
  rw [mul_of_finite ha hb]
  refine isRounding_mk (by positivity) ?_
  rw [signed_bne, signed_value, mul_assoc, signed_value_mul_unit, div_mul_eq_mul_div, Nat.cast_mul, Nat.cast_pow, Nat.cast_ofNat]

theorem isRounding_div {a b : Num64} (ha : isFinite a = true) (hb : isFinite b = true) (hzero : isZero b = false) :
    IsRounding ((value a : ℝ) / value b) (div a b) := by
  have hmag : scaledMag b ≠ 0 := fun h => by simp [(scaledMag_eq_zero_iff b).1 h] at hzero
  rw [div_of_finite ha hb hzero]
  refine isRounding_mk (Nat.pos_of_ne_zero hmag) ?_
  rw [div_eq_mul_inv, signed_bne, signed_inv, signed_value, signed_value, inv_div, div_mul_div_cancel₀ (by positivity),
    div_mul_eq_mul_div, Nat.cast_mul, Nat.cast_pow, Nat.cast_ofNat]

/-- A sum that is exactly zero is `-0` only if both operands are negative (40_function_units.md R101). -/
theorem neg_add_of_sum_zero {a b : Num64} (ha : isFinite a = true) (hb : isFinite b = true) (h : value a + value b = 0) :
    neg (add a b) = (neg a && neg b) := by
  rw [add_of_finite ha hb, if_pos ((value_add_eq_zero_iff a b).1 h), neg_mk _ (by decide)]

/-- Settles O51: both are the one rounding of the exact sum. -/
theorem addRoundsToNearest : Obligations.AddRoundsToNearest := by
  intro a b ha hb
  refine ⟨(isRounding_add ha hb).roundsTo, (isRounding_sub ha hb).roundsTo, neg_add_of_sum_zero ha hb, fun h => ?_⟩
  rw [sub, neg_add_of_sum_zero ha ((isFinite_negate b).trans hb) (by rwa [value_negate, ← sub_eq_add_neg]), neg_negate]

/-- Settles O52: both are the one rounding of the exact result, joined with the product of the signs. -/
theorem mulDivRoundToNearest : Obligations.MulDivRoundToNearest := by
  intro a b ha hb
  refine ⟨(isRounding_mul ha hb).roundsTo, ?_, fun hzero => ⟨(isRounding_div ha hb hzero).roundsTo, ?_⟩⟩
  · rw [mul_of_finite ha hb, neg_mk _ (roundMag_lt _ _)]
  · rw [div_of_finite ha hb hzero, neg_mk _ (roundMag_lt _ _)]

/-! ### Operands that are not finite -/

theorem not_isNaN_of_isInf {x : Num64} (h : isInf x = true) : isNaN x = false := by
  simp only [isInf, isNaN, decide_eq_true_eq, decide_eq_false_iff_not] at *
  omega

theorem not_isZero_of_isInf {x : Num64} (h : isInf x = true) : isZero x = false := by
  have hmag : mag x = infBits := of_decide_eq_true h
  rw [isZero, hmag]
  decide

/-- An infinity is its sign. -/
theorem mk_neg_infBits {x : Num64} (h : isInf x = true) : mk (neg x) infBits = x := by
  have hmag : mag x = infBits := of_decide_eq_true h
  rw [← hmag, mk_neg_mag]

/-- The two infinities by their patterns. -/
theorem infPattern_eq_mk (b : Bool) : (if b then 0xFFF0000000000000#64 else 0x7FF0000000000000#64) = mk b infBits := by
  cases b <;> decide

theorem zeroPattern_eq_mk (b : Bool) : (if b then 0x8000000000000000#64 else 0x0000000000000000#64) = mk b 0 := by
  cases b <;> decide

theorem ops_of_isNaN {a b : Num64} (h : (isNaN a || isNaN b) = true) :
    add a b = qNaN ∧ sub a b = qNaN ∧ mul a b = qNaN ∧ div a b = qNaN := by
  simp only [add, sub, mul, div, isNaN_negate, h, if_true, and_self]

section infinities

variable {a b : Num64}

theorem add_inf_inf (ha : isInf a = true) (hb : isInf b = true) : add a b = if neg a = neg b then mk (neg a) infBits else qNaN := by
  simp only [add, not_isNaN_of_isInf ha, not_isNaN_of_isInf hb, ha, hb, mk_neg_infBits, Bool.or_self, Bool.false_eq_true, if_false,
    if_true, Bool.true_and]
  cases neg a <;> cases neg b <;> rfl

theorem add_inf_left (ha : isInf a = true) (hb : isFinite b = true) : add a b = mk (neg a) infBits := by
  simp only [add, not_isNaN_of_isInf ha, isNaN_eq_false_of_isFinite hb, ha, isInf_eq_false_of_isFinite hb, mk_neg_infBits, Bool.or_self,
    Bool.false_eq_true, if_false, if_true, Bool.false_and]

theorem add_inf_right (ha : isFinite a = true) (hb : isInf b = true) : add a b = mk (neg b) infBits := by
  simp only [add, not_isNaN_of_isInf hb, isNaN_eq_false_of_isFinite ha, hb, isInf_eq_false_of_isFinite ha, mk_neg_infBits, Bool.or_self,
    Bool.false_eq_true, if_false, if_true]

theorem sub_inf_inf (ha : isInf a = true) (hb : isInf b = true) : sub a b = if neg a = neg b then qNaN else mk (neg a) infBits := by
  rw [sub, add_inf_inf ha ((isInf_negate b).trans hb), neg_negate]
  cases neg a <;> cases neg b <;> rfl

theorem mul_of_isInf (hnan : (isNaN a || isNaN b) = false) (hinf : (isInf a || isInf b) = true) :
    mul a b = if isZero a || isZero b then qNaN else mk (neg a != neg b) infBits := by
  simp only [mul, hnan, hinf, Bool.false_eq_true, if_false, if_true]

theorem div_inf_inf (ha : isInf a = true) (hb : isInf b = true) : div a b = qNaN := by
  simp only [div, not_isNaN_of_isInf ha, not_isNaN_of_isInf hb, ha, hb, Bool.or_self, Bool.false_eq_true, if_false, if_true]

theorem div_inf_left (ha : isInf a = true) (hb : isFinite b = true) : div a b = mk (neg a != neg b) infBits := by
  simp only [div, not_isNaN_of_isInf ha, isNaN_eq_false_of_isFinite hb, ha, isInf_eq_false_of_isFinite hb, Bool.or_self,
    Bool.false_eq_true, if_false, if_true]

theorem div_inf_right (ha : isFinite a = true) (hb : isInf b = true) : div a b = mk (neg a != neg b) 0 := by
  simp only [div, not_isNaN_of_isInf hb, isNaN_eq_false_of_isFinite ha, hb, isInf_eq_false_of_isFinite ha, Bool.or_self,
    Bool.false_eq_true, if_false, if_true]

theorem div_zero_right (ha : isFinite a = true) (hb : isZero b = true) :
    div a b = if isZero a then qNaN else mk (neg a != neg b) infBits := by
  have hb' := isFinite_of_isZero hb
  simp only [div, isNaN_eq_false_of_isFinite ha, isNaN_eq_false_of_isFinite hb', isInf_eq_false_of_isFinite ha,
    isInf_eq_false_of_isFinite hb', hb, Bool.or_self, Bool.false_eq_true, if_false, if_true]

end infinities

/-- Settles O53: the operands are NaN, infinite or finite, and each operation answers by that alone. -/
theorem specialOperands : Obligations.SpecialOperands := by
  intro a b
  simp only [infPattern_eq_mk, zeroPattern_eq_mk]
  refine ⟨fun h => ops_of_isNaN (Bool.or_eq_true_iff.2 h), fun ha hb => ⟨add_inf_inf ha hb, sub_inf_inf ha hb, ?_, div_inf_inf ha hb⟩,
    fun ha hb => ⟨add_inf_left ha hb, ?_, ?_, div_inf_left ha hb⟩, fun ha hb => ⟨add_inf_right ha hb, ?_, ?_, div_inf_right ha hb⟩,
    fun ha hb => div_zero_right ha hb⟩
  · rw [mul_of_isInf (by rw [not_isNaN_of_isInf ha, not_isNaN_of_isInf hb]; rfl) (by rw [ha]; rfl), not_isZero_of_isInf ha,
      not_isZero_of_isInf hb]
    rfl
  · exact add_inf_left ha ((isFinite_negate b).trans hb)
  · rw [mul_of_isInf (by rw [not_isNaN_of_isInf ha, isNaN_eq_false_of_isFinite hb]; rfl) (by rw [ha]; rfl), not_isZero_of_isInf ha,
      Bool.false_or]
    rfl
  · rw [sub, add_inf_right ha ((isInf_negate b).trans hb), neg_negate]
  · rw [mul_of_isInf (by rw [not_isNaN_of_isInf hb, isNaN_eq_false_of_isFinite ha]; rfl) (by rw [hb, Bool.or_true]),
      not_isZero_of_isInf hb, Bool.or_false]
    rfl

/-! ### Comparisons -/

/-- A number that is no NaN is finite or one of the two infinities. -/
theorem number_cases {x : Num64} (h : isNaN x = false) : isFinite x = true ∨ isInf x = true := by
  simp only [isNaN, isFinite, isInf, decide_eq_true_eq, decide_eq_false_iff_not] at *
  omega

theorem extValue_of_finite {x : Num64} (h : isFinite x = true) : extValue x = ((value x : ℝ) : EReal) := by
  rw [extValue, isInf_eq_false_of_isFinite h]
  rfl

theorem extValue_of_isInf {x : Num64} (h : isInf x = true) : extValue x = if neg x then ⊥ else ⊤ := by
  rw [extValue, h]
  rfl

theorem key_of_isInf {x : Num64} (h : isInf x = true) : key x = if neg x then -(infBits : Int) else infBits := by
  have hmag : mag x = infBits := of_decide_eq_true h
  rw [key, hmag]

theorem abs_key_of_finite {x : Num64} (h : isFinite x = true) : -(infBits : Int) < key x ∧ key x < infBits := by
  have hmag : mag x < infBits := of_decide_eq_true h
  unfold key
  split <;> omega

/-- The order of the keys is the order of the extended reals. -/
theorem extValue_le_iff {a b : Num64} (ha : isNaN a = false) (hb : isNaN b = false) : extValue a ≤ extValue b ↔ key a ≤ key b := by
  have hpos : (0 : Int) < infBits := by decide
  rcases number_cases ha with hfa | hia <;> rcases number_cases hb with hfb | hib
  · rw [extValue_of_finite hfa, extValue_of_finite hfb, EReal.coe_le_coe_iff, Rat.cast_le, value_le_iff_scaled, key_le_key_iff]
  · have hk := abs_key_of_finite hfa
    rw [extValue_of_finite hfa, extValue_of_isInf hib, key_of_isInf hib]
    cases neg b
    · exact iff_of_true le_top hk.2.le
    · exact iff_of_false (EReal.bot_lt_coe _).not_ge hk.1.not_ge
  · have hk := abs_key_of_finite hfb
    rw [extValue_of_isInf hia, extValue_of_finite hfb, key_of_isInf hia]
    cases neg a
    · exact iff_of_false (EReal.coe_lt_top _).not_ge hk.2.not_ge
    · exact iff_of_true bot_le hk.1.le
  · rw [extValue_of_isInf hia, extValue_of_isInf hib, key_of_isInf hia, key_of_isInf hib]
    cases neg a <;> cases neg b
    · exact iff_of_true le_rfl le_rfl
    · exact iff_of_false (not_le.2 bot_lt_top) (by simp only [Bool.false_eq_true, if_true, if_false]; omega)
    · exact iff_of_true bot_le (by simp only [Bool.false_eq_true, if_true, if_false]; omega)
    · exact iff_of_true le_rfl le_rfl

/-- Settles O54: no operand is NaN, and the keys are ordered as the extended reals are. -/
theorem comparisonsAreExact : Obligations.ComparisonsAreExact := by
  intro a b
  refine ⟨fun h => ?_, fun ha hb => ?_, ?_⟩
  · rcases h with h | h <;> simp [lt, le, feq, h]
  · have hle := extValue_le_iff ha hb
    have hge := extValue_le_iff hb ha
    refine ⟨?_, ?_, ?_⟩
    · rw [F64.lt_iff, ← not_le, ← not_le, hge]
      simp [ha, hb]
    · rw [F64.le_iff, hle]
      simp [ha, hb]
    · rw [le_antisymm_iff (a := extValue a), hle, hge, ← le_antisymm_iff]
      simp [feq, ha, hb]
  · simp [feq]

/-! ### Zeros and monotone rounding -/

/-- What rounds from an exact zero is a zero. -/
theorem IsRounding.isZero {z : Num64} (h : IsRounding 0 z) : isZero z = true := by
  have hzero : (0 : ℝ) = (value posZero : ℝ) := by rw [(value_eq_zero_iff posZero).2 isZero_posZero, Rat.cast_zero]
  rw [← value_eq_zero_iff, (h.exact isFinite_posZero hzero).2, value_eq_zero_iff, isZero_posZero]

/-- Settles O55: every result is the rounding of the exact one, a zero has a zero for its exact result, and rounding is monotone. -/
theorem zeroAndMonotoneRounding : Obligations.ZeroAndMonotoneRounding := by
  intro a b c d ha hb hc hd
  have hreal {z : Num64} (h : isZero z = true) : (value z : ℝ) = 0 := by rw [(value_eq_zero_iff z).2 h, Rat.cast_zero]
  refine ⟨fun h => ⟨?_, ?_⟩, fun h h' => ⟨?_, ?_⟩, fun h => ?_, fun h => ?_, fun hb0 hd0 h => ?_⟩
  · have hround := isRounding_mul ha hb
    rw [hreal h, mul_zero] at hround
    exact hround.isZero
  · have hround := isRounding_mul hb ha
    rw [hreal h, zero_mul] at hround
    exact hround.isZero
  · have hround := isRounding_add ha hb
    rw [hreal h, hreal h', add_zero] at hround
    exact hround.isZero
  · have hround := isRounding_sub ha hb
    rw [hreal h, hreal h', sub_zero] at hround
    exact hround.isZero
  · exact (isRounding_add ha hb).le (isRounding_add hc hd) (by exact_mod_cast h)
  · exact (isRounding_mul ha hb).le (isRounding_mul hc hd) (by exact_mod_cast h)
  · exact (isRounding_div ha hb hb0).le (isRounding_div hc hd hd0) (by exact_mod_cast h)

end Sys2Proof.F64
end

section
/-! PROOF. Integers, integer parts and fractional parts are exact (40_function_units.md R103, R104). -/

namespace Sys2Proof.F64

/-! ### Integers -/

theorem ofNat_eq_ofInt (n : Nat) : ofNat n = ofInt n := by
  rw [ofNat, ofInt, Int.natAbs_natCast, decide_eq_false (not_lt.2 (Int.natCast_nonneg n))]

theorem isRounding_ofInt (i : Int) : IsRounding i (ofInt i) := by
  refine isRounding_mk Nat.one_pos ?_
  rw [signed_int, Nat.cast_mul, Nat.cast_pow, Nat.cast_ofNat, Nat.cast_one, div_one]

/-- Every integer of 53 bits at a scale of the format is the value of a `NUM`. -/
theorem exists_value_eq {n p : Nat} (hn : n ≤ 2 ^ 53) (hp : p ≤ 1500) :
    ∃ y : Num64, isFinite y = true ∧ value y = n * 2 ^ p / 2 ^ 1074 := by
  obtain ⟨hlt, hmag⟩ := magScale_roundMag_scaled hn hp
  have hlt' := roundMag_lt (n * 2 ^ p) 1
  refine ⟨mk false (roundMag (n * 2 ^ p) 1), ?_, ?_⟩
  · rw [isFinite, mag_mk _ hlt']
    exact decide_eq_true hlt
  · rw [value, scaled_of_nonneg (neg_mk _ hlt'), mag_mk _ hlt', hmag, Int.cast_natCast, Nat.cast_mul, Nat.cast_pow, Nat.cast_ofNat]

theorem exists_value_eq_int {i : Int} {p : Nat} (hi : |i| ≤ 2 ^ 53) (hp : p ≤ 1500) :
    ∃ y : Num64, isFinite y = true ∧ value y = i * 2 ^ p / 2 ^ 1074 := by
  have hn : i.natAbs ≤ 2 ^ 53 := by
    rw [Int.abs_eq_natAbs] at hi
    omega
  obtain ⟨y, hfin, hy⟩ := exists_value_eq hn hp
  rw [Nat.cast_natAbs] at hy
  rcases le_total 0 i with h | h
  · exact ⟨y, hfin, by rw [hy, abs_of_nonneg h]⟩
  · refine ⟨negate y, by rw [isFinite_negate, hfin], ?_⟩
    rw [value_negate, hy, abs_of_nonpos h, Int.cast_neg, neg_mul, neg_div, neg_neg]

/-- `num(i)` is exact up to `2^53` (00_scope.md R9). -/
theorem ofInt_exact {i : Int} (hi : |i| ≤ 2 ^ 53) : isFinite (ofInt i) = true ∧ value (ofInt i) = i := by
  obtain ⟨y, hfin, hy⟩ := exists_value_eq_int hi (by norm_num : 1074 ≤ 1500)
  rw [mul_div_cancel_right₀ _ (by positivity)] at hy
  rw [← hy]
  exact (isRounding_ofInt i).exact hfin (by rw [hy, Rat.cast_intCast])

theorem value_add_ofInt {i j : Int} (hi : |i| ≤ 2 ^ 53) (hj : |j| ≤ 2 ^ 53) (h : |i + j| ≤ 2 ^ 53) :
    value (add (ofInt i) (ofInt j)) = i + j := by
  obtain ⟨hfi, hvi⟩ := ofInt_exact hi
  obtain ⟨hfj, hvj⟩ := ofInt_exact hj
  obtain ⟨hfs, hvs⟩ := ofInt_exact h
  rw [((isRounding_add hfi hfj).exact hfs (by rw [hvi, hvj, hvs]; push_cast; rfl)).2, hvs, Int.cast_add]

theorem value_mul_ofInt {i j : Int} (hi : |i| ≤ 2 ^ 53) (hj : |j| ≤ 2 ^ 53) (h : |i * j| ≤ 2 ^ 53) :
    value (mul (ofInt i) (ofInt j)) = i * j := by
  obtain ⟨hfi, hvi⟩ := ofInt_exact hi
  obtain ⟨hfj, hvj⟩ := ofInt_exact hj
  obtain ⟨hfs, hvs⟩ := ofInt_exact h
  rw [((isRounding_mul hfi hfj).exact hfs (by rw [hvi, hvj, hvs]; push_cast; rfl)).2, hvs, Int.cast_mul]

/-! ### Integer and fractional parts -/

/-- The exact value over the unit as a natural number. -/
theorem value_eq_div (v : Num64) : value v = scaled v / (2 ^ 1074 : Nat) := by
  rw [value, Nat.cast_pow, Nat.cast_ofNat]

/-- `FLOOR` is the floor of the exact value. -/
theorem floor_eq_floor_value (v : Num64) : floor v = ⌊value v⌋ := by
  rw [value_eq_div, Rat.floor_intCast_div_natCast, Nat.cast_pow, Nat.cast_ofNat]
  rfl

theorem floor_le_value (v : Num64) : (floor v : ℚ) ≤ value v := by
  rw [floor_eq_floor_value]
  exact Int.floor_le _

theorem value_lt_floor_add_one (v : Num64) : value v < floor v + 1 := by
  rw [floor_eq_floor_value]
  exact Int.lt_floor_add_one _

theorem abs_value (v : Num64) : |value v| = scaledMag v / (2 ^ 1074 : Nat) := by
  have hscaled : |scaled v| = scaledMag v := by
    unfold scaled
    split
    · rw [abs_neg, Nat.abs_cast]
    · exact Nat.abs_cast _
  rw [value_eq_div, abs_div, Nat.abs_cast, ← Int.cast_abs, hscaled, Int.cast_natCast]

/-- The integer part of a finite number is exact: a number past `2^52` is an integer, one below has an integer part of 53 bits. -/
theorem floor_exact {v : Num64} (hfin : isFinite v = true) : isFinite (ofInt (floor v)) = true ∧ value (ofInt (floor v)) = floor v := by
  have hunit : (0 : ℚ) < (2 ^ 1074 : Nat) := by positivity
  obtain ⟨j, hj⟩ | ⟨-, hsmall⟩ := magScale_grid (mag v) 1074
  · have hint : value v = floor v := by
      have habs : |value v| = (j : Int) := by
        rw [abs_value, scaledMag_eq, hj, Nat.cast_mul, mul_div_cancel_right₀ _ hunit.ne', Int.cast_natCast]
      rw [floor_eq_floor_value]
      rcases abs_choice (value v) with h | h
      · rw [← h, habs, Int.floor_intCast]
      · rw [← neg_neg (value v), ← h, habs, ← Int.cast_neg, Int.floor_intCast]
    rw [← hint]
    exact (isRounding_ofInt (floor v)).exact hfin (by rw [hint, Rat.cast_intCast])
  · have habs : |value v| < (2 ^ 52 : Nat) := by
      rw [abs_value, div_lt_iff₀ hunit, ← Nat.cast_mul]
      exact Nat.cast_lt.2 hsmall
    obtain ⟨hlow, hhigh⟩ := abs_lt.1 habs
    refine ofInt_exact ?_
    rw [floor_eq_floor_value, abs_le]
    exact ⟨Int.le_floor.2 (by push_cast at hlow ⊢; linarith), (Int.floor_lt.2 (by push_cast at hhigh ⊢; linarith)).le⟩

theorem magScale_mod_unit (m : Nat) : ∃ n p, n ≤ 2 ^ 53 ∧ p ≤ 1500 ∧ magScale m % 2 ^ 1074 = n * 2 ^ p := by
  obtain hsub | ⟨e, f, hf, rfl⟩ := mag_cases m
  · have hlt : m < 2 ^ 1074 := hsub.trans_le (pow_le_pow_right₀ one_le_two (by norm_num))
    exact ⟨m, 0, hsub.le.trans (by norm_num), by norm_num, by rw [magScale_subnormal hsub, Nat.mod_eq_of_lt hlt, pow_zero, Nat.mul_one]⟩
  · rw [magScale_normal e hf]
    rcases Nat.lt_or_ge e 1074 with he | he
    · have hsplit : 2 ^ 1074 = 2 ^ (1074 - e) * 2 ^ e := by rw [← pow_add, Nat.sub_add_cancel he.le]
      exact ⟨(2 ^ 52 + f) % 2 ^ (1074 - e), e, (Nat.mod_le _ _).trans (by omega), by omega, by rw [hsplit, Nat.mul_mod_mul_right]⟩
    · refine ⟨0, 0, by norm_num, by norm_num, ?_⟩
      rw [Nat.mod_eq_zero_of_dvd ((pow_dvd_pow 2 he).mul_left _), Nat.zero_mul]

/-- A number that is not negative minus its floor is exact. -/
theorem value_sub_ofInt_floor {v : Num64} (hfin : isFinite v = true) (h : 0 ≤ value v) :
    isFinite (sub v (ofInt (floor v))) = true ∧ value (sub v (ofInt (floor v))) = value v - floor v := by
  obtain ⟨hfloor, hvalue⟩ := floor_exact hfin
  obtain ⟨n, p, hn, hp, hmod⟩ := magScale_mod_unit (mag v)
  obtain ⟨y, hy, hyv⟩ := exists_value_eq hn hp
  have hfrac : value v - floor v = value y := by
    rw [floor_eq_floor_value, Int.self_sub_floor, ← abs_of_nonneg h, abs_value, Int.fract_div_natCast_eq_div_natCast_mod, scaledMag_eq,
      hmod, hyv, Nat.cast_mul, Nat.cast_pow, Nat.cast_pow, Nat.cast_ofNat]
  rw [hfrac]
  refine (isRounding_sub hfin hfloor).exact hy ?_
  rw [hvalue, ← hfrac, Rat.cast_sub]

/-- Settles O56: each result is exact because a `NUM` holds it. -/
theorem integersAndFloorExact : Obligations.IntegersAndFloorExact := by
  refine ⟨fun i j hi hj => ?_, fun n => ⟨ofNat_eq_ofInt n, fun hn => ?_⟩, fun v hfin => ?_⟩
  · exact ⟨(ofInt_exact hi).1, (ofInt_exact hi).2, value_add_ofInt hi hj, value_mul_ofInt hi hj⟩
  · have hn' : |(n : Int)| ≤ 2 ^ 53 := by
      rw [Nat.abs_cast]
      exact_mod_cast hn
    rw [ofNat_eq_ofInt]
    exact_mod_cast ofInt_exact hn'
  · have hlow := floor_le_value (negate v)
    have hhigh := value_lt_floor_add_one (negate v)
    rw [value_negate] at hlow hhigh
    refine ⟨floor_le_value v, value_lt_floor_add_one v, ?_, ?_, fun h => (value_sub_ofInt_floor hfin h).2⟩ <;>
      rw [ceil, Int.cast_neg] <;> linarith

end Sys2Proof.F64
end

section
/-! PROOF. `EXP2` (40_function_units.md R105): the exact floor at a fixed scale, by its interval or by its closed form, and one
rounding of the middle, which is that of every number of the same unit interval. -/

namespace Sys2Proof.F64

/-! ### Rounding from an exact floor -/

/-- A boundary between two roundings is a multiple of the unit `2^s`, so every number strictly inside one unit interval rounds as its
middle does. -/
theorem Nearest.of_floor {x : ℝ} {n k M : Nat} {s : Int} (hbig : 2 ^ 53 ≤ n) (hlo : n * 2 ^ s < x) (hhi : x < (n + 1) * 2 ^ s)
    (h : Nearest ((2 * n + 1) / 2 * 2 ^ s) k M) : Nearest x k M := by
  have hunit : (0 : ℝ) < 2 ^ s := by positivity
  have hs : s < k := by
    have hn : (2 ^ 53 : ℝ) ≤ n := by exact_mod_cast hbig
    have hn' : 2 ^ 53 * (2 : ℝ) ^ s ≤ n * 2 ^ s := mul_le_mul_of_nonneg_right hn hunit.le
    have hlt : (2 : ℝ) ^ s < 2 ^ (k : Int) := by
      rw [zpow_natCast]
      linarith [h.fits]
    exact (zpow_lt_zpow_iff_right₀ one_lt_two).1 hlt
  obtain ⟨g, hg⟩ : ∃ g : Nat, (2 : ℝ) ^ k = 2 * g * 2 ^ s := by
    obtain ⟨j, hj⟩ : ∃ j : Nat, (k : Int) = j + 1 + s := ⟨(k - s - 1).toNat, by omega⟩
    refine ⟨2 ^ j, ?_⟩
    rw [← zpow_natCast, hj, zpow_add₀ two_ne_zero, zpow_add_one₀ two_ne_zero, zpow_natCast]
    push_cast
    ring
  obtain ⟨⟨hlower, hupper, hnormal, -⟩, hfits, -⟩ := h
  rw [hg] at hlower hupper hnormal hfits
  have hbelow : (2 * M - 1) * g ≤ (n : Int) := by
    have hreal : ((2 * M - 1) * (2 * g) : ℝ) ≤ 2 * n + 1 := le_of_mul_le_mul_right (by linarith) hunit
    have hint : (2 * M - 1) * (2 * g) ≤ 2 * (n : Int) + 1 := by exact_mod_cast hreal
    lia
  have habove : n + 1 ≤ (2 * M + 1) * g := by
    have hreal : (2 * n + 1 : ℝ) ≤ (2 * M + 1) * (2 * g) := le_of_mul_le_mul_right (by linarith) hunit
    have hnat : 2 * n + 1 ≤ (2 * M + 1) * (2 * g) := by exact_mod_cast hreal
    lia
  have hnormal' : k = 0 ∨ 2 ^ 53 * g ≤ n := by
    refine hnormal.imp_right fun h => ?_
    have hreal : (2 ^ 54 * g : ℝ) ≤ 2 * n + 1 := le_of_mul_le_mul_right (by linarith) hunit
    have hnat : 2 ^ 54 * g ≤ 2 * n + 1 := by exact_mod_cast hreal
    omega
  have hfits' : n + 1 ≤ 2 ^ 54 * g := by
    have hreal : (2 * n + 1 : ℝ) < 2 ^ 55 * g := lt_of_mul_lt_mul_right (by linarith) hunit.le
    have hnat : 2 * n + 1 < 2 ^ 55 * g := by exact_mod_cast hreal
    omega
  have scale {a b : ℝ} (h : a ≤ b) : a * 2 ^ s ≤ b * 2 ^ s := mul_le_mul_of_nonneg_right h hunit.le
  have hlower' : (2 * M - 1) * 2 ^ k < 2 * x := by
    have := scale (by exact_mod_cast hbelow : ((2 * M - 1) * g : ℝ) ≤ n)
    rw [hg]
    linarith
  have hupper' : 2 * x < (2 * M + 1) * 2 ^ k := by
    have := scale (by exact_mod_cast habove : (n + 1 : ℝ) ≤ (2 * M + 1) * g)
    rw [hg]
    linarith
  refine ⟨⟨hlower'.le, hupper'.le, hnormal'.imp_right fun h => ?_, ?_⟩, ?_, ?_⟩
  · have := scale (by exact_mod_cast h : (2 ^ 53 * g : ℝ) ≤ n)
    rw [hg]
    linarith
  · exact (by positivity : (0 : ℝ) ≤ n * 2 ^ s).trans hlo.le
  · have := scale (by exact_mod_cast hfits' : (n + 1 : ℝ) ≤ 2 ^ 54 * g)
    rw [hg]
    linarith
  · rintro (htie | htie)
    · exact absurd htie hlower'.ne'
    · exact absurd htie hupper'.ne

theorem isRounding_of_floor {r : ℝ} {b : Bool} {n m d : Nat} {s : Int} (hd : 0 < d) (hbig : 2 ^ 53 ≤ n)
    (hmid : (m / d : ℝ) = (2 * n + 1) / 2 * 2 ^ s) (hlo : n * 2 ^ s < signed b r * 2 ^ 1074)
    (hhi : signed b r * 2 ^ 1074 < (n + 1) * 2 ^ s) : IsRounding r (mk b (roundMag m d)) := by
  obtain ⟨k, M, hround, hnear⟩ := roundMag_nearest m hd
  rw [hmid] at hnear
  refine ⟨k, M, ?_, ?_⟩
  · rw [mag_mk b (roundMag_lt m d), hround]
  · rw [neg_mk b (roundMag_lt m d)]
    exact hnear.of_floor hbig hlo hhi

theorem cast_div_lt (a b : Nat) : (a / b : ℝ) < (a / b : Nat) + 1 := by
  rw [← Nat.floor_div_eq_div (K := ℝ)]
  exact Nat.lt_floor_add_one _

/-! ### Products of interval ends -/

theorem cast_mul_div_le {a b p : Nat} {x y : ℝ} (hx : 0 ≤ x) (ha : a ≤ x * 2 ^ p) (hb : b ≤ y * 2 ^ p) :
    ((a * b / 2 ^ p : Nat) : ℝ) ≤ x * y * 2 ^ p := by
  refine Nat.cast_div_le.trans ?_
  rw [Nat.cast_mul, Nat.cast_pow, Nat.cast_ofNat, div_le_iff₀ (by positivity)]
  calc (a * b : ℝ) ≤ x * 2 ^ p * (y * 2 ^ p) := by gcongr
    _ = x * y * 2 ^ p * 2 ^ p := by ring

theorem le_cast_mul_div_add_one {a b p : Nat} {x y : ℝ} (hy : 0 ≤ y) (ha : x * 2 ^ p ≤ a) (hb : y * 2 ^ p ≤ b) :
    x * y * 2 ^ p ≤ (a * b / 2 ^ p + 1 : Nat) := by
  refine le_trans ?_ ((cast_div_lt _ _).le.trans_eq (Nat.cast_succ _).symm)
  rw [Nat.cast_mul, Nat.cast_pow, Nat.cast_ofNat, le_div_iff₀ (by positivity)]
  calc x * y * 2 ^ p * 2 ^ p = x * 2 ^ p * (y * 2 ^ p) := by ring
    _ ≤ a * b := by gcongr

/-! ### Roots of powers of two -/

theorem two_rpow_div_pow (A : Nat) {D : Nat} (hD : D ≠ 0) : ((2 : ℝ) ^ (A / D : ℝ)) ^ D = 2 ^ A := by
  have hD' : (D : ℝ) ≠ 0 := by exact_mod_cast hD
  rw [← Real.rpow_mul_natCast zero_le_two, div_mul_cancel₀ _ hD', Real.rpow_natCast]

/-- A whole root of a power of two is a power of two. -/
theorem eq_two_pow_of_eq_rpow {N A D : Nat} (hD : D ≠ 0) (h : (N : ℝ) = 2 ^ (A / D : ℝ)) : ∃ a, N = 2 ^ a ∧ A = a * D := by
  have hpow : N ^ D = 2 ^ A := by
    have hreal := two_rpow_div_pow A hD
    rw [← h] at hreal
    exact_mod_cast hreal
  obtain ⟨a, -, rfl⟩ := (Nat.dvd_prime_pow Nat.prime_two).1 (hpow ▸ dvd_pow_self N hD)
  rw [← pow_mul] at hpow
  exact ⟨a, rfl, (Nat.pow_right_injective le_rfl hpow).symm⟩

/-- `2^p` lies below its chord on the unit interval. -/
theorem two_rpow_le {p : ℝ} (h0 : 0 ≤ p) (h1 : p ≤ 1) : (2 : ℝ) ^ p ≤ 1 + p := by
  have h := rpow_one_add_le_one_add_mul_self (by norm_num : (-1 : ℝ) ≤ 1) h0 h1
  norm_num at h
  exact h

/-! ### The exact floor of a power of two -/

/-- Nested integer square roots are the integer root of the product degree. -/
theorem iterate_isqrt_spec (X m : Nat) : (isqrt^[m] X) ^ 2 ^ m ≤ X ∧ X < (isqrt^[m] X + 1) ^ 2 ^ m := by
  induction m with
  | zero => simp
  | succ m ih =>
    obtain ⟨hlo, hhi⟩ := isqrt_spec (isqrt^[m] X)
    rw [Function.iterate_succ_apply', pow_succ' 2 m, pow_mul, pow_mul, pow_two, pow_two]
    exact ⟨(Nat.pow_le_pow_left hlo _).trans ih.1, ih.2.trans_le (Nat.pow_le_pow_left hhi _)⟩

theorem iterate_isqrt_two_pow (A m : Nat) :
    (isqrt^[m] (2 ^ A) : ℝ) ≤ 2 ^ (A / (2 ^ m : Nat) : ℝ) ∧ (2 : ℝ) ^ (A / (2 ^ m : Nat) : ℝ) < isqrt^[m] (2 ^ A) + 1 := by
  have hD : 2 ^ m ≠ 0 := by positivity
  obtain ⟨hlo, hhi⟩ := iterate_isqrt_spec (2 ^ A) m
  have hroot := two_rpow_div_pow A hD
  constructor
  · rw [← pow_le_pow_iff_left₀ (by positivity) (by positivity) hD, hroot]
    exact_mod_cast hlo
  · rw [← pow_lt_pow_iff_left₀ (by positivity) (by positivity) hD, hroot]
    exact_mod_cast hhi

/-- The interval holds the product of the roots that the low `i` bits of `f` name, the current root being `R` and the product so far `Q`. -/
theorem exp2Interval_spec (f i rlo rhi plo phi : Nat) {R Q : ℝ} (hR : 0 < R) (hQ : 0 ≤ Q)
    (hrlo : rlo ≤ R * 2 ^ expPrec) (hrhi : R * 2 ^ expPrec ≤ rhi) (hplo : plo ≤ Q * 2 ^ expPrec) (hphi : Q * 2 ^ expPrec ≤ phi) :
    ((exp2Interval f i rlo rhi plo phi).1 : ℝ) ≤ Q * R ^ ((f % 2 ^ i : Nat) / 2 ^ i : ℝ) * 2 ^ expPrec ∧
      Q * R ^ ((f % 2 ^ i : Nat) / 2 ^ i : ℝ) * 2 ^ expPrec ≤ (exp2Interval f i rlo rhi plo phi).2 := by
  induction i generalizing rlo rhi plo phi R Q with
  | zero => simpa [exp2Interval, Nat.mod_one] using ⟨hplo, hphi⟩
  | succ i ih =>
    have hprec : (0 : ℝ) < 2 ^ expPrec := by positivity
    have hS : 0 < √R := Real.sqrt_pos.2 hR
    have hsq : (√R * 2 ^ expPrec) ^ 2 = R * 2 ^ expPrec * 2 ^ expPrec := by
      rw [mul_pow, Real.sq_sqrt hR.le]
      ring
    have hslo : (isqrt (rlo * 2 ^ expPrec) : ℝ) ≤ √R * 2 ^ expPrec := by
      rw [← abs_of_pos (mul_pos hS hprec)]
      refine isqrt_le_abs ?_
      rw [hsq, Nat.cast_mul, Nat.cast_pow, Nat.cast_ofNat]
      exact mul_le_mul_of_nonneg_right hrlo hprec.le
    have hshi : √R * 2 ^ expPrec ≤ (isqrt (rhi * 2 ^ expPrec) + 1 : Nat) := by
      rw [← abs_of_pos (mul_pos hS hprec), Nat.cast_succ]
      refine abs_le_isqrt_add_one ?_
      rw [hsq, Nat.cast_mul, Nat.cast_pow, Nat.cast_ofNat]
      exact mul_le_mul_of_nonneg_right hrhi hprec.le
    have hsplit : R ^ ((f % 2 ^ (i + 1) : Nat) / 2 ^ (i + 1) : ℝ) =
        √R ^ (f / 2 ^ i % 2) * √R ^ ((f % 2 ^ i : Nat) / 2 ^ i : ℝ) := by
      rw [← Real.rpow_natCast √R (f / 2 ^ i % 2), ← Real.rpow_add hS, Real.sqrt_eq_rpow, ← Real.rpow_mul hR.le, Nat.mod_pow_succ]
      congr 1
      push_cast
      field_simp
      ring
    rw [hsplit, ← mul_assoc, exp2Interval]
    split
    · next hbit =>
      rw [hbit, pow_one]
      exact ih _ _ _ _ hS (mul_nonneg hQ hS.le) hslo hshi (cast_mul_div_le hQ hplo hslo) (le_cast_mul_div_add_one hS.le hphi hshi)
    · next hbit =>
      rw [show f / 2 ^ i % 2 = 0 by omega, pow_zero, mul_one]
      exact ih _ _ _ _ hS hQ hslo hshi hplo hphi

/-- The interval of `exp2Floor` holds the power named by the first 128 bits. -/
theorem exp2Interval_bounds {F : Nat} (hF : F < 2 ^ 128) :
    ((exp2Interval F 128 (2 ^ (expPrec + 1)) (2 ^ (expPrec + 1)) (2 ^ expPrec) (2 ^ expPrec)).1 : ℝ) ≤ 2 ^ (F / 2 ^ 128 : ℝ) * 2 ^ expPrec ∧
      (2 : ℝ) ^ (F / 2 ^ 128 : ℝ) * 2 ^ expPrec ≤
        (exp2Interval F 128 (2 ^ (expPrec + 1)) (2 ^ (expPrec + 1)) (2 ^ expPrec) (2 ^ expPrec)).2 := by
  have h := exp2Interval_spec F 128 (2 ^ (expPrec + 1)) (2 ^ (expPrec + 1)) (2 ^ expPrec) (2 ^ expPrec) (R := 2) (Q := 1)
    two_pos zero_le_one (by push_cast; rw [pow_succ']) (by push_cast; rw [pow_succ']) (by push_cast; rw [one_mul])
    (by push_cast; rw [one_mul])
  rwa [Nat.mod_eq_of_lt hF, one_mul] at h

theorem exp2FloorExact_spec (f : Nat) : (exp2FloorExact f : ℝ) ≤ 2 ^ (64 + f / 2 ^ 1074 : ℝ) ∧
    (2 : ℝ) ^ (64 + f / 2 ^ 1074 : ℝ) < exp2FloorExact f + 1 := by
  have h := iterate_isqrt_two_pow (f + 64 * 2 ^ 1074) 1074
  have hexp : ((f + 64 * 2 ^ 1074 : Nat) / (2 ^ 1074 : Nat) : ℝ) = 64 + f / 2 ^ 1074 := by
    rw [Nat.cast_add, Nat.cast_mul, Nat.cast_pow, Nat.cast_ofNat, Nat.cast_ofNat, add_div, mul_div_cancel_right₀ _ (by positivity),
      add_comm]
  rwa [hexp] at h

/-- The power named by the high bits of a fraction lies below the whole power by a factor of at most `1 + 2^-a`. -/
theorem two_rpow_high_bits (f a b : Nat) : (2 : ℝ) ^ ((f / 2 ^ b : Nat) / 2 ^ a : ℝ) ≤ 2 ^ (f / 2 ^ (a + b) : ℝ) ∧
    (2 : ℝ) ^ (f / 2 ^ (a + b) : ℝ) ≤ 2 ^ ((f / 2 ^ b : Nat) / 2 ^ a : ℝ) * (1 + 1 / 2 ^ a) := by
  have hquot : (f / 2 ^ b : ℝ) = f / (2 ^ b : Nat) := by push_cast; rfl
  have hcut : ((f / 2 ^ b : Nat) / 2 ^ a : ℝ) ≤ f / 2 ^ (a + b) := by
    rw [pow_add, mul_comm, ← div_div, hquot]
    exact div_le_div_of_nonneg_right Nat.cast_div_le (by positivity)
  have hrest : (f / 2 ^ (a + b) : ℝ) - (f / 2 ^ b : Nat) / 2 ^ a ≤ 1 / 2 ^ a := by
    rw [pow_add, mul_comm, ← div_div, ← sub_div, hquot]
    exact div_le_div_of_nonneg_right (by linarith [cast_div_lt f (2 ^ b)]) (by positivity)
  have hone : (1 : ℝ) / 2 ^ a ≤ 1 := div_le_one_of_le₀ (one_le_pow₀ one_le_two) (by positivity)
  refine ⟨Real.rpow_le_rpow_of_exponent_le one_le_two hcut, ?_⟩
  rw [← sub_add_cancel (f / 2 ^ (a + b) : ℝ) ((f / 2 ^ b : Nat) / 2 ^ a), Real.rpow_add two_pos, mul_comm]
  gcongr
  exact (two_rpow_le (sub_nonneg.2 hcut) (hrest.trans hone)).trans (by linarith)

theorem two_rpow_fraction_lt_two {f m : Nat} (hf : f < 2 ^ m) : (2 : ℝ) ^ (f / 2 ^ m : ℝ) < 2 := by
  have hlt : (f / 2 ^ m : ℝ) < 1 := by
    rw [div_lt_one (by positivity)]
    exact_mod_cast hf
  calc (2 : ℝ) ^ (f / 2 ^ m : ℝ) < 2 ^ (1 : ℝ) := Real.rpow_lt_rpow_of_exponent_lt one_lt_two hlt
    _ = 2 := Real.rpow_one 2

/-- Where the two ends of an interval for the high bits of the power `y` have one floor at scale `2^64`, that is the floor of `2^64 * y`. -/
theorem floor_of_interval {b : Nat × Nat} {w : Nat} {q y : ℝ} (hlo : b.1 ≤ q * (2 ^ 64 * 2 ^ w)) (hhi : q * (2 ^ 64 * 2 ^ w) ≤ b.2)
    (hless : q ≤ y) (hmore : y ≤ q * (1 + 1 / 2 ^ 128)) (htop : y < 2)
    (hsame : b.1 / 2 ^ w = min ((b.2 + b.2 / 2 ^ 128 + 1) / 2 ^ w) (2 ^ 65 - 1)) :
    ((b.1 / 2 ^ w : Nat) : ℝ) ≤ 2 ^ 64 * y ∧ 2 ^ 64 * y < (b.1 / 2 ^ w : Nat) + 1 := by
  have hscale : (0 : ℝ) < 2 ^ w := by positivity
  constructor
  · refine Nat.cast_div_le.trans ?_
    rw [Nat.cast_pow, Nat.cast_ofNat, div_le_iff₀ hscale]
    calc (b.1 : ℝ) ≤ q * (2 ^ 64 * 2 ^ w) := hlo
      _ ≤ y * (2 ^ 64 * 2 ^ w) := by gcongr
      _ = 2 ^ 64 * y * 2 ^ w := by ring
  · have hupper : 2 ^ 64 * y * 2 ^ w < (b.2 + b.2 / 2 ^ 128 + 1 : Nat) := by
      have hcarry := cast_div_lt b.2 (2 ^ 128)
      rw [Nat.cast_pow, Nat.cast_ofNat] at hcarry
      calc 2 ^ 64 * y * 2 ^ w ≤ 2 ^ 64 * (q * (1 + 1 / 2 ^ 128)) * 2 ^ w := by gcongr
        _ = q * (2 ^ 64 * 2 ^ w) * (1 + 1 / 2 ^ 128) := by ring
        _ ≤ b.2 * (1 + 1 / 2 ^ 128) := by gcongr
        _ = b.2 + b.2 / 2 ^ 128 := by ring
        _ < b.2 + (b.2 / 2 ^ 128 : Nat) + 1 := by linarith
        _ = (b.2 + b.2 / 2 ^ 128 + 1 : Nat) := by push_cast; ring
    have hquot : 2 ^ 64 * y < ((b.2 + b.2 / 2 ^ 128 + 1) / 2 ^ w : Nat) + 1 := by
      refine lt_trans ?_ (cast_div_lt _ _)
      rwa [Nat.cast_pow, Nat.cast_ofNat, lt_div_iff₀ hscale]
    rw [hsame]
    rcases min_choice ((b.2 + b.2 / 2 ^ 128 + 1) / 2 ^ w) (2 ^ 65 - 1) with h | h <;> rw [h]
    · exact hquot
    · norm_num
      linarith

/-- `exp2Floor` is the floor of `2^(64 + f / 2^1074)`, whichever of its two ways gives the answer. -/
theorem exp2Floor_spec {f : Nat} (hf : f < 2 ^ 1074) : (exp2Floor f : ℝ) ≤ 2 ^ (64 + f / 2 ^ 1074 : ℝ) ∧
    (2 : ℝ) ^ (64 + f / 2 ^ 1074 : ℝ) < exp2Floor f + 1 := by
  unfold exp2Floor
  simp only
  split
  · next hsame =>
    have hF : f / 2 ^ 946 < 2 ^ 128 := Nat.div_lt_of_lt_mul (by rwa [← pow_add, show 946 + 128 = 1074 from rfl])
    have hprec : (2 : ℝ) ^ expPrec = 2 ^ 64 * 2 ^ (expPrec - 64) := pow_add 2 64 (expPrec - 64)
    obtain ⟨hlo, hhi⟩ := exp2Interval_bounds hF
    obtain ⟨hless, hmore⟩ := two_rpow_high_bits f 128 946
    rw [hprec] at hlo hhi
    rw [Real.rpow_add two_pos, Real.rpow_ofNat]
    exact floor_of_interval hlo hhi hless hmore (two_rpow_fraction_lt_two hf) hsame
  · exact exp2FloorExact_spec f

/-- Between two whole exponents the power of two is no integer. -/
theorem natCast_ne_two_rpow {f m : Nat} (N c : Nat) (h0 : f ≠ 0) (hf : f < 2 ^ m) : (N : ℝ) ≠ 2 ^ (c + f / 2 ^ m : ℝ) := by
  intro heq
  have hexp : ((c * 2 ^ m + f : Nat) / (2 ^ m : Nat) : ℝ) = c + f / 2 ^ m := by
    push_cast
    field_simp
  rw [← hexp] at heq
  obtain ⟨a, -, ha⟩ := eq_two_pow_of_eq_rpow (Nat.two_pow_pos m).ne' heq
  have hdvd : 2 ^ m ∣ f := (Nat.dvd_add_right (Nat.dvd_mul_left _ c)).1 (Dvd.intro_left a ha.symm)
  exact absurd (Nat.le_of_dvd (Nat.pos_of_ne_zero h0) hdvd) hf.not_ge

/-- So the floor is never reached. -/
theorem exp2Floor_lt {f : Nat} (h0 : f ≠ 0) (hf : f < 2 ^ 1074) : (exp2Floor f : ℝ) < 2 ^ (64 + f / 2 ^ 1074 : ℝ) := by
  have hne := natCast_ne_two_rpow (exp2Floor f) 64 h0 hf
  rw [Nat.cast_ofNat] at hne
  exact (exp2Floor_spec hf).1.lt_of_ne hne

/-- At scale `2^64` the floor has 65 bits. -/
theorem exp2Floor_ge {f : Nat} (hf : f < 2 ^ 1074) : 2 ^ 64 ≤ exp2Floor f := by
  have hge : (2 : ℝ) ^ 64 ≤ 2 ^ (64 + f / 2 ^ 1074 : ℝ) := by
    rw [← Real.rpow_ofNat]
    exact Real.rpow_le_rpow_of_exponent_le one_le_two
      (le_add_of_nonneg_right (div_nonneg (Nat.cast_nonneg f) (pow_nonneg zero_le_two 1074)))
  have hlt : ((2 ^ 64 : Nat) : ℝ) < (exp2Floor f + 1 : Nat) := by
    rw [Nat.cast_pow, Nat.cast_ofNat, Nat.cast_succ]
    exact hge.trans_lt (exp2Floor_spec hf).2
  exact Nat.lt_succ_iff.1 (Nat.cast_lt.1 hlt)

/-! ### `EXP2` -/

/-- The integer and the fractional part of an exponent, as `EXP2` takes them apart. -/
theorem value_eq_floor_add (v : Num64) : (value v : ℝ) = floor v + (scaled v % 2 ^ 1074).toNat / 2 ^ 1074 := by
  have hfrac : value v - floor v = ((scaled v % (2 ^ 1074 : Nat) : Int) : ℚ) / (2 ^ 1074 : Nat) := by
    rw [floor_eq_floor_value, Int.self_sub_floor, value_eq_div, Int.fract_div_intCast_eq_div_intCast_mod]
  have hnonneg : 0 ≤ scaled v % (2 ^ 1074 : Nat) := Int.emod_nonneg _ (by positivity)
  rw [← Int.toNat_of_nonneg hnonneg, Nat.cast_pow, Nat.cast_pow, Nat.cast_ofNat, Nat.cast_ofNat, Int.cast_natCast] at hfrac
  have hreal : ((value v - floor v : ℚ) : ℝ) = (scaled v % 2 ^ 1074).toNat / 2 ^ 1074 := by
    rw [hfrac, Rat.cast_div, Rat.cast_natCast, Rat.cast_pow, Rat.cast_ofNat]
  rw [← hreal, Rat.cast_sub, Rat.cast_intCast, add_sub_cancel]

theorem fraction_lt (v : Num64) : (scaled v % 2 ^ 1074).toNat < 2 ^ 1074 := by
  have hunit : (0 : Int) < 2 ^ 1074 := by positivity
  have hlt := Int.emod_lt_of_pos (scaled v) hunit
  have hnonneg := Int.emod_nonneg (scaled v) hunit.ne'
  rw [← Int.ofNat_lt, Int.toNat_of_nonneg hnonneg, Nat.cast_pow]
  exact hlt

/-- The power in units of `2^-1074`, for the exponent `e` that `EXP2` takes. -/
theorem two_rpow_scaled {v : Num64} {e : Nat} (he : (e : Int) = floor v + 1075) :
    (2 : ℝ) ^ (value v : ℝ) * 2 ^ 1074 = 2 ^ e / 2 * 2 ^ ((scaled v % 2 ^ 1074).toNat / 2 ^ 1074 : ℝ) := by
  have hfloor : (floor v : ℝ) = e - (1074 + 1) := by
    rw [eq_sub_of_add_eq he.symm]
    push_cast
    norm_num
  rw [value_eq_floor_add, hfloor, Real.rpow_add two_pos, Real.rpow_sub two_pos, Real.rpow_natCast, Real.rpow_add two_pos,
    Real.rpow_one, Real.rpow_ofNat]
  field_simp

theorem isRounding_exp2_of_whole {v : Num64} {e : Nat} (he : (e : Int) = floor v + 1075) (hf : (scaled v % 2 ^ 1074).toNat = 0) :
    IsRounding ((2 : ℝ) ^ (value v : ℝ)) (mk false (roundMag (2 ^ e) 2)) := by
  refine isRounding_mk two_pos ?_
  rw [signed_false, two_rpow_scaled he, hf, Nat.cast_zero, zero_div, Real.rpow_zero, mul_one, Nat.cast_pow, Nat.cast_ofNat]

theorem isRounding_exp2_of_fraction {v : Num64} {e : Nat} (he : (e : Int) = floor v + 1075) (hf : (scaled v % 2 ^ 1074).toNat ≠ 0) :
    IsRounding ((2 : ℝ) ^ (value v : ℝ))
      (mk false (roundMag (2 ^ e * (2 * exp2Floor (scaled v % 2 ^ 1074).toNat + 1)) (2 ^ 66))) := by
  have hlt := fraction_lt v
  have hscaled := two_rpow_scaled he
  generalize (scaled v % 2 ^ 1074).toNat = f at *
  have hlo := exp2Floor_lt hf hlt
  have hhi := (exp2Floor_spec hlt).2
  have hbig : 2 ^ 53 ≤ exp2Floor f := (by norm_num : 2 ^ 53 ≤ 2 ^ 64).trans (exp2Floor_ge hlt)
  have hs : (2 : ℝ) ^ ((e : Int) - 65) = 2 ^ e / 2 ^ 65 := by
    rw [zpow_sub₀ two_ne_zero, zpow_natCast]
    rfl
  have hpos : (0 : ℝ) < 2 ^ ((e : Int) - 65) := by positivity
  have hx : signed false ((2 : ℝ) ^ (value v : ℝ)) * 2 ^ 1074 = 2 ^ (64 + f / 2 ^ 1074 : ℝ) * 2 ^ ((e : Int) - 65) := by
    rw [signed_false, hscaled, hs, Real.rpow_add two_pos, Real.rpow_ofNat]
    ring
  refine isRounding_of_floor (s := (e : Int) - 65) (by positivity) hbig ?_ ?_ ?_
  · rw [hs]
    push_cast
    ring
  · rw [hx]
    exact mul_lt_mul_of_pos_right hlo hpos
  · rw [hx]
    exact mul_lt_mul_of_pos_right hhi hpos

theorem roundsTo_posInf {r : ℝ} (h : overflowBound ≤ r) : RoundsTo r posInf := by
  have hpos : 0 < r := (one_pos.trans one_lt_overflowBound).trans_le h
  have habs : ¬ |r| < overflowBound := not_lt.2 (h.trans (le_abs_self r))
  exact ⟨fun _ => by decide, fun hr => absurd hr habs, fun hr => absurd hr habs, fun hr => absurd hr habs,
    fun _ => by rw [decide_eq_false hpos.not_gt]; decide⟩

/-- Below half the least number a positive result underflows to `+0`. -/
theorem isRounding_posZero {r : ℝ} (h0 : 0 ≤ r) (h : 2 * (r * 2 ^ 1074) < 1) : IsRounding r posZero := by
  have hneg : neg posZero = false := by decide
  have hnonneg : 0 ≤ r * 2 ^ 1074 := by positivity
  refine ⟨0, 0, by decide, ?_⟩
  rw [hneg, signed_false]
  generalize r * 2 ^ 1074 = x at *
  refine ⟨⟨?_, ?_, .inl rfl, hnonneg⟩, ?_, fun _ => rfl⟩ <;> norm_num <;> linarith

theorem mul_unit_le_scaled_iff (c : Int) (v : Num64) : c * 2 ^ 1074 ≤ scaled v ↔ (c : ℝ) ≤ value v := by
  have hunit : (0 : ℝ) < 2 ^ 1074 := by positivity
  rw [← Int.cast_le (R := ℝ), ← value_mul_unit, Int.cast_mul, Int.cast_pow, Int.cast_ofNat, mul_le_mul_iff_left₀ hunit]

/-- `EXP2` of a finite exponent rounds the exact power: past the overflow bound, below half the least number, or from its floor. -/
theorem exp2_roundsTo {v : Num64} (hfin : isFinite v = true) : RoundsTo ((2 : ℝ) ^ (value v : ℝ)) (exp2 v) := by
  simp only [exp2, isNaN_eq_false_of_isFinite hfin, isInf_eq_false_of_isFinite hfin, Bool.false_eq_true, if_false]
  split
  · next hover =>
    refine roundsTo_posInf (le_trans ?_ (Real.rpow_le_rpow_of_exponent_le one_le_two ((mul_unit_le_scaled_iff 1024 v).1 hover)))
    rw [Int.cast_ofNat, Real.rpow_ofNat, overflowBound]
    exact sub_le_self _ (by positivity)
  split
  · next hunder =>
    rw [← not_le, mul_unit_le_scaled_iff, not_le] at hunder
    refine (isRounding_posZero (by positivity) ?_).roundsTo
    have hlt : (2 : ℝ) ^ (value v : ℝ) < 2 ^ ((-1075 : Int) : ℝ) := Real.rpow_lt_rpow_of_exponent_lt one_lt_two hunder
    have hone : 2 * ((2 : ℝ) ^ ((-1075 : Int) : ℝ) * 2 ^ 1074) = 1 := by
      rw [Real.rpow_intCast, ← zpow_natCast, ← zpow_add₀ two_ne_zero, ← zpow_one_add₀ two_ne_zero]
      norm_num
    rw [← hone]
    gcongr
  · next hunder =>
    have hfloor : -1075 ≤ floor v := by
      rw [floor, Int.le_ediv_iff_mul_le (by positivity)]
      exact not_lt.1 hunder
    have he : ((floor v + 1075).toNat : Int) = floor v + 1075 := Int.toNat_of_nonneg (by omega)
    split
    · next hf => exact (isRounding_exp2_of_whole he hf).roundsTo
    · next hf => exact (isRounding_exp2_of_fraction he hf).roundsTo

/-- Settles O57: the special values by the definition, the finite ones by the floor. -/
theorem exp2RoundsToNearest : Obligations.Exp2RoundsToNearest := by
  refine ⟨fun v h => ?_, by decide, by decide, fun v hfin => exp2_roundsTo hfin⟩
  rw [exp2, if_pos h]
  rfl

end Sys2Proof.F64
end

section
/-! PROOF. `LOG2` (40_function_units.md R106): the exact floor of the logarithm, by its digits or by its closed form, and the one rounding. -/

namespace Sys2Proof.F64

/-! ### The exact floor of a logarithm -/

theorem halve_interval {lo hi : Nat} {w u : ℝ} (hlo : lo ≤ w * u) (hhi : w * u ≤ hi) :
    ((lo / 2 : Nat) : ℝ) ≤ w / 2 * u ∧ w / 2 * u ≤ (hi / 2 + 1 : Nat) := by
  have hlow := (Nat.cast_div_le : ((lo / 2 : Nat) : ℝ) ≤ lo / (2 : Nat))
  have hhigh := cast_div_lt hi 2
  rw [Nat.cast_ofNat] at hlow hhigh
  rw [Nat.cast_succ]
  constructor <;> linarith

/-- The digits that the interval decides are those of the logarithm of every number in it. -/
theorem log2Digits_spec (i lo hi acc : Nat) {n : Nat} {w : ℝ} (h1 : 1 ≤ w) (h2 : w < 2) (hlo : lo ≤ w * 2 ^ logPrec)
    (hhi : w * 2 ^ logPrec ≤ hi) (h : log2Digits i lo hi acc = some n) :
    n ≤ 2 ^ i * (acc + Real.logb 2 w) ∧ 2 ^ i * (acc + Real.logb 2 w) < n + 1 := by
  induction i generalizing lo hi acc w with
  | zero =>
    obtain rfl : acc = n := Option.some.inj h
    have hlog0 : 0 ≤ Real.logb 2 w := Real.logb_nonneg one_lt_two h1
    have hlog1 : Real.logb 2 w < 1 := (Real.logb_lt_iff_lt_rpow one_lt_two (by linarith)).2 (by rwa [Real.rpow_one])
    constructor <;> linarith
  | succ i ih =>
    have hprec : (0 : ℝ) < 2 ^ logPrec := by positivity
    have hw : 0 < w := by linarith
    have hsq : Real.logb 2 (w * w) = 2 * Real.logb 2 w := by
      rw [Real.logb_mul hw.ne' hw.ne', two_mul]
    have hlo2 := cast_mul_div_le hw.le hlo hlo
    have hhi2 := le_cast_mul_div_add_one hw.le hhi hhi
    rw [log2Digits] at h
    generalize lo * lo / 2 ^ logPrec = lo2 at *
    generalize hi * hi / 2 ^ logPrec + 1 = hi2 at *
    split at h
    · next hdigit =>
      have hdigit' := Nat.cast_le (α := ℝ).2 hdigit
      rw [Nat.cast_pow, Nat.cast_ofNat, pow_succ] at hdigit'
      have hge : 2 ≤ w * w := le_of_mul_le_mul_right (by linarith : 2 * (2 : ℝ) ^ logPrec ≤ w * w * 2 ^ logPrec) hprec
      have hhalf : Real.logb 2 (w * w / 2) = 2 * Real.logb 2 w - 1 := by
        rw [Real.logb_div (by positivity) two_ne_zero, hsq, Real.logb_self_eq_one one_lt_two]
      obtain ⟨hlow, hhigh⟩ := halve_interval hlo2 hhi2
      have hstep := ih _ _ _ (by linarith) (by nlinarith) hlow hhigh h
      rw [hhalf] at hstep
      have hacc : 2 ^ (i + 1) * (acc + Real.logb 2 w) = 2 ^ i * ((2 * acc + 1 : Nat) + (2 * Real.logb 2 w - 1)) := by
        push_cast
        ring
      rwa [hacc]
    · split at h
      · next hdigit =>
        have hdigit' := Nat.cast_lt (α := ℝ).2 hdigit
        rw [Nat.cast_pow, Nat.cast_ofNat, pow_succ] at hdigit'
        have hlt : w * w < 2 := lt_of_mul_lt_mul_right (by linarith : w * w * 2 ^ logPrec < 2 * (2 : ℝ) ^ logPrec) hprec.le
        have hstep := ih _ _ _ (one_le_mul_of_one_le_of_one_le h1 h1) hlt hlo2 hhi2 h
        rw [hsq] at hstep
        have hacc : 2 ^ (i + 1) * (acc + Real.logb 2 w) = 2 ^ i * ((2 * acc : Nat) + 2 * Real.logb 2 w) := by
          push_cast
          ring
        rwa [hacc]
      · exact absurd h (by simp)

/-- The exponent of a power is the floor of the multiple of the logarithm. -/
theorem log2_pow_spec {s : Nat} (hs : s ≠ 0) (D : Nat) :
    (Nat.log2 (s ^ D) : ℝ) ≤ D * Real.logb 2 s ∧ D * Real.logb 2 s < Nat.log2 (s ^ D) + 1 := by
  have hpow : s ^ D ≠ 0 := pow_ne_zero D hs
  have hpos : (0 : ℝ) < s ^ D := by
    exact_mod_cast Nat.pos_of_ne_zero hpow
  rw [← Real.logb_pow]
  constructor
  · rw [Real.le_logb_iff_rpow_le one_lt_two hpos, Real.rpow_natCast]
    exact_mod_cast Nat.log2_self_le hpow
  · rw [Real.logb_lt_iff_lt_rpow one_lt_two hpos, ← Nat.cast_succ, Real.rpow_natCast]
    exact_mod_cast Nat.lt_log2_self (n := s ^ D)

theorem logb_div_two_pow {s : ℝ} (hs : 0 < s) (e : Nat) : Real.logb 2 (s / 2 ^ e) = Real.logb 2 s - e := by
  rw [Real.logb_div hs.ne' (by positivity), Real.logb_pow, Real.logb_self_eq_one one_lt_two, mul_one]

theorem log2_pow_sub_spec {s e : Nat} (h : 2 ^ e ≤ s) (D : Nat) :
    ((Nat.log2 (s ^ D) - e * D : Nat) : ℝ) ≤ D * Real.logb 2 (s / 2 ^ e) ∧
      D * Real.logb 2 (s / 2 ^ e) < (Nat.log2 (s ^ D) - e * D : Nat) + 1 := by
  have hs : 0 < s := (Nat.two_pow_pos e).trans_le h
  obtain ⟨hlo, hhi⟩ := log2_pow_spec hs.ne' D
  have hle : e * D ≤ Nat.log2 (s ^ D) := by
    rw [Nat.le_log2 (pow_ne_zero D hs.ne'), pow_mul]
    exact Nat.pow_le_pow_left h D
  rw [logb_div_two_pow (by exact_mod_cast hs), Nat.cast_sub hle, Nat.cast_mul]
  constructor <;> linarith

theorem log2FloorExact_spec {s e : Nat} (h : 2 ^ e ≤ s) :
    (log2FloorExact s e : ℝ) ≤ 2 ^ 128 * Real.logb 2 (s / 2 ^ e) ∧ 2 ^ 128 * Real.logb 2 (s / 2 ^ e) < log2FloorExact s e + 1 := by
  have hscale : ((2 ^ 128 : Nat) : ℝ) = 2 ^ 128 := by rw [Nat.cast_pow, Nat.cast_ofNat]
  rw [← hscale]
  exact log2_pow_sub_spec h (2 ^ 128)

/-- The two ways of `log2Floor`. The function is unfolded as a whole and its closed form kept opaque, for the kernel must not evaluate either
at an argument. -/
theorem log2Floor_cases {P : Nat → Prop} (s e : Nat)
    (hdigits : ∀ n, log2Digits 128 (s * 2 ^ logPrec / 2 ^ e) (s * 2 ^ logPrec / 2 ^ e + 1) 0 = some n → P n)
    (hexact : P (log2FloorExact s e)) : P (log2Floor s e) := by
  generalize hF : log2Floor = F
  delta log2Floor at hF
  subst hF
  beta_reduce
  generalize log2FloorExact s e = exact at hexact
  generalize log2Digits 128 (s * 2 ^ logPrec / 2 ^ e) (s * 2 ^ logPrec / 2 ^ e + 1) 0 = digits at hdigits
  cases digits with
  | some n => exact hdigits n rfl
  | none => exact hexact

/-- `log2Floor` is the floor of `2^128` times the logarithm of the significand, whichever of its two ways gives the answer. -/
theorem log2Floor_spec {s e : Nat} (hlow : 2 ^ e ≤ s) (hhigh : s < 2 ^ (e + 1)) :
    (log2Floor s e : ℝ) ≤ 2 ^ 128 * Real.logb 2 (s / 2 ^ e) ∧ 2 ^ 128 * Real.logb 2 (s / 2 ^ e) < log2Floor s e + 1 := by
  have hpos : (0 : ℝ) < 2 ^ e := by positivity
  have hone : (1 : ℝ) ≤ s / 2 ^ e := by
    rw [one_le_div hpos]
    exact_mod_cast hlow
  have htwo : (s / 2 ^ e : ℝ) < 2 := by
    rw [div_lt_iff₀ hpos, ← pow_succ']
    exact_mod_cast hhigh
  have hval : ((s * 2 ^ logPrec : Nat) / (2 ^ e : Nat) : ℝ) = s / 2 ^ e * 2 ^ logPrec := by
    push_cast
    ring
  have hlo : ((s * 2 ^ logPrec / 2 ^ e : Nat) : ℝ) ≤ s / 2 ^ e * 2 ^ logPrec := Nat.cast_div_le.trans_eq hval
  have hhi : s / 2 ^ e * 2 ^ logPrec ≤ ((s * 2 ^ logPrec / 2 ^ e + 1 : Nat) : ℝ) := by
    rw [← hval, Nat.cast_succ]
    exact (cast_div_lt _ _).le
  refine log2Floor_cases (P := fun n => (n : ℝ) ≤ 2 ^ 128 * Real.logb 2 (s / 2 ^ e) ∧ 2 ^ 128 * Real.logb 2 (s / 2 ^ e) < n + 1) s e
    (fun n hn => ?_) (log2FloorExact_spec hlow)
  have h := log2Digits_spec 128 _ _ 0 hone htwo hlo hhi hn
  rwa [Nat.cast_zero, zero_add] at h

/-- The floor is never reached but by a power of two. -/
theorem log2Floor_lt {s e : Nat} (hlow : 2 ^ e ≤ s) (hhigh : s < 2 ^ (e + 1)) (hne : s ≠ 2 ^ e) :
    (log2Floor s e : ℝ) < 2 ^ 128 * Real.logb 2 (s / 2 ^ e) := by
  have hs : (0 : ℝ) < s := by exact_mod_cast (Nat.two_pow_pos e).trans_le hlow
  refine (log2Floor_spec hlow hhigh).1.lt_of_ne fun heq => ?_
  rw [logb_div_two_pow hs] at heq
  have hlog : Real.logb 2 s = ((log2Floor s e + e * 2 ^ 128 : Nat) / (2 ^ 128 : Nat) : ℝ) := by
    rw [Nat.cast_add, Nat.cast_mul, Nat.cast_pow, Nat.cast_ofNat, heq]
    field_simp
    ring
  have hpow := Real.rpow_logb two_pos (by norm_num) hs
  rw [hlog] at hpow
  obtain ⟨a, rfl, -⟩ := eq_two_pow_of_eq_rpow (by positivity) hpow.symm
  have hea : e ≤ a := (Nat.pow_le_pow_iff_right (by norm_num)).1 hlow
  have hae : a < e + 1 := (Nat.pow_lt_pow_iff_right (by norm_num)).1 hhigh
  exact hne (by rw [Nat.le_antisymm (Nat.lt_succ_iff.1 hae) hea])

/-! ### Near one -/

/-- A value other than one is at least `2^-53` away from it. -/
theorem magScale_away_from_one {m : Nat} (h : magScale m ≠ 2 ^ 53 * 2 ^ 1021) :
    magScale m + 2 ^ 1021 ≤ 2 ^ 53 * 2 ^ 1021 ∨ 2 ^ 53 * 2 ^ 1021 + 2 ^ 1021 ≤ magScale m := by
  obtain ⟨j, hj⟩ | ⟨-, hm⟩ := magScale_grid m 1021
  · rw [hj] at h ⊢
    have hne : j ≠ 2 ^ 53 := fun heq => h (by rw [heq])
    rcases Nat.lt_or_gt_of_ne hne with hlt | hgt
    · have := Nat.mul_le_mul_right (2 ^ 1021) (Nat.succ_le_of_lt hlt)
      rw [Nat.succ_mul] at this
      exact .inl this
    · have := Nat.mul_le_mul_right (2 ^ 1021) (Nat.succ_le_of_lt hgt)
      rw [Nat.succ_mul] at this
      exact .inr this
  · left
    generalize 2 ^ 1021 = u at hm
    omega

theorem le_abs_logb {q p : ℝ} (hq : 0 < q) (h0 : 0 ≤ p) (h1 : p ≤ 1) (h : q + p ≤ 1 ∨ 1 + p ≤ q) : p ≤ |Real.logb 2 q| := by
  have hchord := two_rpow_le h0 h1
  have hpos : (0 : ℝ) < 2 ^ p := by positivity
  rcases h with h | h
  · have hlog : Real.logb 2 q ≤ -p := by
      rw [Real.logb_le_iff_le_rpow one_lt_two hq, Real.rpow_neg zero_le_two, ← one_div, le_div_iff₀ hpos]
      nlinarith
    rw [abs_of_nonpos (by linarith)]
    linarith
  · have hlog : p ≤ Real.logb 2 q := by
      rw [Real.le_logb_iff_rpow_le one_lt_two hq]
      linarith
    exact hlog.trans (le_abs_self _)

/-! ### `LOG2` -/

/-- What a positive finite number is to `LOG2`: its scaled magnitude. -/
theorem value_of_pos {v : Num64} (h : lt posZero v = true) : scaledMag v ≠ 0 ∧ (value v : ℝ) = scaledMag v / 2 ^ 1074 := by
  obtain ⟨-, hneg, hmag⟩ := lt_posZero_iff.1 h
  refine ⟨fun h0 => hmag (of_decide_eq_true ((scaledMag_eq_zero_iff v).1 h0)), ?_⟩
  rw [← signed_value, hneg, signed_false]

/-- The logarithm is `2^-53` away from zero, but at one. -/
theorem le_abs_logb_value {v : Num64} (hpos : lt posZero v = true) (hne : scaledMag v ≠ 2 ^ 53 * 2 ^ 1021) :
    1 / 2 ^ 53 ≤ |Real.logb 2 (value v)| := by
  obtain ⟨hmag, hvalue⟩ := value_of_pos hpos
  have hunit : (2 : ℝ) ^ 1074 = 2 ^ 53 * 2 ^ 1021 := by rw [← pow_add]
  have hsmall : (0 : ℝ) < 2 ^ 1021 := by positivity
  have hv : (value v : ℝ) = scaledMag v / 2 ^ 1021 / 2 ^ 53 := by rw [hvalue, hunit, div_div, mul_comm]
  have haway := magScale_away_from_one (m := mag v) hne
  rw [← scaledMag_eq] at haway
  have hcast {a b c : Nat} (h : a + b ≤ c) : (a : ℝ) + b ≤ c := by exact_mod_cast h
  refine le_abs_logb ?_ (by positivity) (by norm_num) (haway.imp (fun h => ?_) fun h => ?_)
  · rw [hvalue]
    have : (0 : ℝ) < scaledMag v := by exact_mod_cast Nat.pos_of_ne_zero hmag
    positivity
  · have := hcast h
    rw [Nat.cast_mul, Nat.cast_pow, Nat.cast_pow, Nat.cast_ofNat] at this
    rw [hv, ← add_div, div_le_one (by positivity), ← mul_le_mul_iff_left₀ hsmall, add_mul, div_mul_cancel₀ _ hsmall.ne', one_mul]
    exact this
  · have := hcast h
    rw [Nat.cast_mul, Nat.cast_pow, Nat.cast_pow, Nat.cast_ofNat] at this
    rw [hv, le_div_iff₀ (by positivity), add_mul, one_mul, div_mul_cancel₀ _ (by positivity), ← mul_le_mul_iff_left₀ hsmall, add_mul,
      div_mul_cancel₀ _ hsmall.ne', one_mul]
    exact this

/-- An integer floor `r` of a number at scale `2^128`, taken as a sign and a magnitude. -/
theorem isRounding_of_int_floor {l : ℝ} {r : Int} (hlo : r < 2 ^ 128 * l) (hhi : 2 ^ 128 * l < r + 1) (hbig : 1 / 2 ^ 53 ≤ |l|) :
    IsRounding l (mk (decide (r < 0)) (roundMag ((2 * r + 1).natAbs * 2 ^ 945) 1)) := by
  have hunit : (2 : ℝ) ^ 1074 = 2 ^ 128 * 2 ^ 946 := by rw [← pow_add]
  have hs : (2 : ℝ) ^ (946 : Int) = 2 ^ 946 := zpow_ofNat 2 946
  have hpos : (0 : ℝ) < 2 ^ 946 := by positivity
  have hhalf : (2 : ℝ) ^ 946 = 2 * 2 ^ 945 := pow_succ' 2 945
  obtain ⟨n, hn, hnlo, hnhi⟩ : ∃ n : Nat, (2 * r + 1).natAbs = 2 * n + 1 ∧ n < signed (decide (r < 0)) (2 ^ 128 * l) ∧
      signed (decide (r < 0)) (2 ^ 128 * l) < n + 1 := by
    rcases lt_or_ge r 0 with h | h
    · refine ⟨(-r - 1).toNat, by omega, ?_⟩
      have hcast : (((-r - 1).toNat : Int) : ℝ) = -r - 1 := by
        rw [Int.toNat_of_nonneg (by omega)]
        push_cast
        rfl
      rw [Int.cast_natCast] at hcast
      rw [decide_eq_true h, hcast, signed_true]
      constructor <;> linarith
    · refine ⟨r.toNat, by omega, ?_⟩
      have hcast : ((r.toNat : Int) : ℝ) = r := by rw [Int.toNat_of_nonneg h]
      rw [Int.cast_natCast] at hcast
      rw [decide_eq_false h.not_gt, hcast, signed_false]
      exact ⟨hlo, hhi⟩
  generalize decide (r < 0) = b at *
  have hscaled : signed b l * 2 ^ 1074 = signed b (2 ^ 128 * l) * 2 ^ 946 := by
    rw [hunit, signed_mul_right, signed_mul_right, mul_comm (2 ^ 128) l, mul_assoc]
  have hn53 : 2 ^ 53 ≤ n := by
    have habs : |l| * 2 ^ 128 = signed b (2 ^ 128 * l) := by
      rw [← abs_eq_signed ((Nat.cast_nonneg n).trans hnlo.le), abs_mul, abs_of_pos (pow_pos two_pos 128 : (0 : ℝ) < 2 ^ 128), mul_comm]
    have hreal : ((2 ^ 53 : Nat) : ℝ) < (n + 1 : Nat) := by
      push_cast
      linarith
    exact Nat.lt_succ_iff.1 (Nat.cast_lt.1 hreal)
  rw [hn]
  refine isRounding_of_floor (s := 946) Nat.one_pos hn53 ?_ ?_ ?_
  · rw [hs, hhalf, Nat.cast_one, div_one, Nat.cast_mul, Nat.cast_pow, Nat.cast_succ, Nat.cast_mul, Nat.cast_ofNat, ← mul_assoc,
      div_mul_cancel₀ _ two_ne_zero]
  · rw [hs, hscaled]
    exact mul_lt_mul_of_pos_right hnlo hpos
  · rw [hs, hscaled]
    exact mul_lt_mul_of_pos_right hnhi hpos

theorem log2_of_pos {v : Num64} (hpos : lt posZero v = true) (hfin : isFinite v = true) :
    log2 v = if scaledMag v = 2 ^ Nat.log2 (scaledMag v) then ofInt ((Nat.log2 (scaledMag v) : Int) - 1074)
      else mk (decide (((Nat.log2 (scaledMag v) : Int) - 1074) * 2 ^ 128 + log2Floor (scaledMag v) (Nat.log2 (scaledMag v)) < 0))
        (roundMag ((2 * (((Nat.log2 (scaledMag v) : Int) - 1074) * 2 ^ 128 +
          log2Floor (scaledMag v) (Nat.log2 (scaledMag v))) + 1).natAbs * 2 ^ 945) 1) := by
  obtain ⟨hNaN, hneg, hmag⟩ := lt_posZero_iff.1 hpos
  have hzero : isZero v = false := decide_eq_false hmag
  simp only [log2, hNaN, hzero, hneg, isInf_eq_false_of_isFinite hfin, Bool.false_eq_true, if_false]

/-- `LOG2` of a positive finite number rounds the exact logarithm: an integer, or from its floor. -/
theorem isRounding_log2 {v : Num64} (hpos : lt posZero v = true) (hfin : isFinite v = true) :
    IsRounding (Real.logb 2 (value v)) (log2 v) := by
  obtain ⟨hmag, hvalue⟩ := value_of_pos hpos
  have haway := le_abs_logb_value hpos
  have hs : (0 : ℝ) < scaledMag v := by exact_mod_cast Nat.pos_of_ne_zero hmag
  have hlow := Nat.log2_self_le hmag
  have hhigh : scaledMag v < 2 ^ (Nat.log2 (scaledMag v) + 1) := Nat.lt_log2_self
  have hlog := logb_div_two_pow hs 1074
  rw [log2_of_pos hpos hfin]
  rw [hvalue] at haway ⊢
  generalize scaledMag v = s at *
  generalize Nat.log2 s = e at *
  rw [Nat.cast_ofNat] at hlog
  split
  · next hpow =>
    have hint : Real.logb 2 (s / 2 ^ 1074) = ((e - 1074 : Int) : ℝ) := by
      rw [hlog, hpow, Nat.cast_pow, Nat.cast_ofNat, Real.logb_pow, Real.logb_self_eq_one one_lt_two, mul_one, Int.cast_sub,
        Int.cast_natCast, Int.cast_ofNat]
    rw [hint]
    exact isRounding_ofInt _
  · next hpow =>
    have hsplit : 2 ^ 128 * Real.logb 2 (s / 2 ^ 1074) = (e - 1074) * 2 ^ 128 + 2 ^ 128 * Real.logb 2 (s / 2 ^ e) := by
      rw [hlog, logb_div_two_pow hs]
      ring
    have hfloor := log2Floor_lt hlow hhigh hpow
    have hceil := (log2Floor_spec hlow hhigh).2
    have hone : s ≠ 2 ^ 53 * 2 ^ 1021 := by
      intro heq
      rw [← pow_add] at heq
      generalize 53 + 1021 = a at heq
      rw [heq, Nat.pow_le_pow_iff_right one_lt_two] at hlow
      rw [heq, Nat.pow_lt_pow_iff_right one_lt_two] at hhigh
      exact hpow (by rw [heq, Nat.le_antisymm (Nat.lt_succ_iff.1 hhigh) hlow])
    generalize log2Floor s e = n at hfloor hceil
    refine isRounding_of_int_floor ?_ ?_ (haway hone)
    · rw [hsplit]
      push_cast
      linarith
    · rw [hsplit]
      push_cast
      linarith

/-- Settles O58: the special values by the definition, the positive finite ones by the floor. -/
theorem log2RoundsToNearest : Obligations.Log2RoundsToNearest := by
  intro v
  refine ⟨fun hzero => ?_, fun h => ?_, by decide, fun hfin hpos => (isRounding_log2 hpos hfin).roundsTo⟩
  · have hNaN := isNaN_eq_false_of_isFinite (isFinite_of_isZero hzero)
    simp only [log2, hNaN, hzero, Bool.false_eq_true, if_false, if_true]
  · rcases h with hNaN | hlt
    · rw [log2, if_pos hNaN]
      rfl
    · obtain ⟨hNaN, -, hkey⟩ := F64.lt_iff.1 hlt
      have hkey0 : key posZero = 0 := by decide
      rw [hkey0, key] at hkey
      have hneg : neg v = true := by
        by_contra hneg
        rw [if_neg hneg] at hkey
        omega
      have hzero : isZero v = false := decide_eq_false fun hmag => by
        rw [hmag] at hkey
        simp at hkey
      simp only [log2, hNaN, hzero, hneg, Bool.false_eq_true, if_false, if_true]
      rfl

end Sys2Proof.F64
end

section
/-! PROOF. The sine unit (40_function_units.md R107, R108, R111 to R113): the phase within one turn, the full wave from the quarter table, and an
interpolation that stays between its ends. -/

namespace Sys2Proof.F64

/-! ### Numbers between bounds -/

theorem isFinite_of_between {a b x : Num64} (ha : isFinite a = true) (hb : isFinite b = true) (hax : le a x = true) (hxb : le x b = true) :
    isFinite x = true := by
  have hka := abs_key_of_finite ha
  have hkb := abs_key_of_finite hb
  obtain ⟨-, -, hlow⟩ := F64.le_iff.1 hax
  obtain ⟨-, -, hhigh⟩ := F64.le_iff.1 hxb
  refine decide_eq_true ?_
  unfold key at hka hkb hlow hhigh
  split at hlow <;> omega

theorem value_one : value one = 1 := by
  rw [value, scaled_one, Int.cast_pow, Int.cast_ofNat, div_self (by positivity)]

theorem value_posZero : value posZero = 0 := (value_eq_zero_iff posZero).2 isZero_posZero

/-- The fractional part of a phase lies in `[0, 1]`: below zero it may round to 1. -/
theorem fraction_bounds {p : Num64} (hfin : isFinite p = true) :
    le posZero (sub p (ofInt (floor p))) = true ∧ le (sub p (ofInt (floor p))) one = true := by
  obtain ⟨hfloor, hvalue⟩ := floor_exact hfin
  have hround := isRounding_sub hfin hfloor
  have hlow : (floor p : ℝ) ≤ value p := by exact_mod_cast floor_le_value p
  have hhigh : (value p : ℝ) ≤ floor p + 1 := by exact_mod_cast (value_lt_floor_add_one p).le
  have hone : IsRounding 1 one := by simpa [value_one] using isRounding_value (z := one) (by decide)
  rw [hvalue, Rat.cast_intCast] at hround
  exact ⟨(isRounding_zero isZero_posZero).le hround (by linarith), hround.le hone (by linarith)⟩

/-- A number that is not negative times one whose sign is plus: no negative integer part, even where the product is NaN. -/
theorem floor_mul_nonneg {t n : Num64} (ht : le posZero t = true) (hfin : isFinite t = true) (hn : isNaN n = false) (hneg : neg n = false) :
    0 ≤ floor (mul t n) := by
  refine Int.ediv_nonneg ?_ (by positivity)
  have hn0 : le posZero n = true := le_posZero_iff.2 ⟨hn, fun h => absurd h (by simp [hneg])⟩
  cases hzero : isZero t with
  | false =>
    obtain ⟨hNaN, hsign⟩ := le_posZero_iff.1 ht
    have hmag : mag t ≠ 0 := of_decide_eq_false hzero
    have hneg' : neg t = false := Bool.eq_false_iff.2 fun h => hmag (hsign h)
    have hle := le_posZero_mul (lt_posZero_iff.2 ⟨hNaN, hneg', hmag⟩) hn0 hfin
    exact scaled_le_of_le hle
  | true =>
    rcases number_cases hn with hfin' | hinf
    · have hround := isRounding_mul hfin hfin'
      rw [(value_eq_zero_iff t).2 hzero, Rat.cast_zero, zero_mul] at hround
      exact ((scaled_eq_zero_iff _).2 hround.isZero).ge
    · have hNaN : (isNaN t || isNaN n) = false := by rw [isNaN_eq_false_of_isFinite hfin, hn]; rfl
      rw [mul_of_isInf hNaN (by rw [hinf, Bool.or_true]), hzero, Bool.true_or, if_pos rfl,
        scaled_of_nonneg (by decide : neg qNaN = false)]
      exact Int.natCast_nonneg _

/-- An interpolation `v + phi * d` with `phi` in `[0, 1]` stays within the bounds of its two ends, each operation being rounded. -/
theorem interpolation_bounded {v d phi lo hi : Num64} (hv : isFinite v = true) (hd : isFinite d = true) (hphi : isFinite phi = true)
    (h0 : 0 ≤ value phi) (h1 : value phi ≤ 1) (hlo : le lo v = true) (hlo' : le lo (add v d) = true) (hhi : le v hi = true)
    (hhi' : le (add v d) hi = true) : le lo (add v (mul phi d)) = true ∧ le (add v (mul phi d)) hi = true := by
  have h0' : (0 : ℝ) ≤ value phi := by exact_mod_cast h0
  have h1' : (value phi : ℝ) ≤ 1 := by exact_mod_cast h1
  have hzero := isRounding_value isFinite_posZero
  have hself := isRounding_value hv
  have hend := isRounding_add hv hd
  have hprod := isRounding_mul hphi hd
  have hreal {x y : Num64} (h : le x y = true) : (value x : ℝ) ≤ value y := by exact_mod_cast value_le_of_le h
  have hz : (value posZero : ℝ) = 0 := by rw [value_posZero, Rat.cast_zero]
  rcases le_total 0 (value d : ℝ) with hsign | hsign
  · have hlow := hzero.le hprod (by rw [hz]; positivity)
    have hhigh := hprod.le (isRounding_value hd) (mul_le_of_le_one_left hsign h1')
    have hsum := isRounding_add hv (isFinite_of_between isFinite_posZero hd hlow hhigh)
    have hbelow := hself.le hsum (by linarith [hreal hlow])
    have habove := hsum.le hend (by linarith [hreal hhigh])
    exact ⟨F64.le_trans hlo hbelow, F64.le_trans habove hhi'⟩
  · have hlow := (isRounding_value hd).le hprod (by nlinarith)
    have hhigh := hprod.le hzero (by rw [hz]; exact mul_nonpos_of_nonneg_of_nonpos h0' hsign)
    have hsum := isRounding_add hv (isFinite_of_between hd isFinite_posZero hlow hhigh)
    have hbelow := hend.le hsum (by linarith [hreal hlow])
    have habove := hsum.le hself (by linarith [hreal hhigh])
    exact ⟨F64.le_trans hlo' hbelow, F64.le_trans habove hhi⟩

theorem IsRounding.negate {r : ℝ} {z : Num64} (h : IsRounding r z) : IsRounding (-r) (negate z) := by
  obtain ⟨k, M, hmag, hnear⟩ := h
  refine ⟨k, M, by rw [mag_negate, hmag], ?_⟩
  rw [neg_negate]
  cases hb : neg z <;> simpa [hb] using hnear

/-- Up to 1 a rounding is off by at most `2^-54`: a multiple of `2^-53` is that near. -/
theorem IsRounding.error_le {r : ℝ} {z : Num64} (h : IsRounding r z) (hr : |r| ≤ 1) : |r - value z| ≤ 1 / 2 ^ 54 := by
  have hpos : (0 : ℝ) < 2 ^ 53 := by positivity
  obtain ⟨i, hi⟩ : ∃ i : Int, |r * 2 ^ 53 - i| ≤ 1 / 2 := ⟨_, abs_sub_round _⟩
  have hle : |i| ≤ 2 ^ 53 := by
    obtain ⟨hr0, hr1⟩ := abs_le.1 hr
    obtain ⟨hi0, hi1⟩ := abs_le.1 hi
    have hlow : ((-2 ^ 53 - 1 : Int) : ℝ) < i := by
      push_cast
      linarith
    have hhigh : (i : ℝ) < (2 ^ 53 + 1 : Int) := by
      push_cast
      linarith
    rw [Int.cast_lt] at hlow hhigh
    rw [abs_le]
    omega
  obtain ⟨y, hfin, hy⟩ := exists_value_eq_int hle (by norm_num : 1021 ≤ 1500)
  have hvalue : (value y : ℝ) = i / 2 ^ 53 := by
    have hunit : (2 : ℚ) ^ 1074 = 2 ^ 53 * 2 ^ 1021 := by rw [← pow_add]
    rw [hy, hunit, mul_div_mul_right _ _ (by positivity), Rat.cast_div, Rat.cast_intCast, Rat.cast_pow, Rat.cast_ofNat]
  have hsplit : r - i / 2 ^ 53 = (r * 2 ^ 53 - i) / 2 ^ 53 := by rw [sub_div, mul_div_cancel_right₀ _ hpos.ne']
  refine (h.roundsTo.nearest (hr.trans_lt one_lt_overflowBound) y hfin).trans ?_
  rw [hvalue, hsplit, abs_div, abs_of_pos hpos, div_le_iff₀ hpos]
  exact hi.trans (by norm_num)

/-- A quarter of the last place above 1 still rounds to 1. -/
theorem isRounding_one : IsRounding (1 + 1 / 2 ^ 54) one := by
  have hneg : neg one = false := by decide
  have hx : (1 + 1 / 2 ^ 54) * (2 : ℝ) ^ 1074 = (2 ^ 54 + 1) * 2 ^ 1020 := by
    rw [pow_add (2 : ℝ) 54 1020]
    field_simp
  have hk : (2 : ℝ) ^ 1022 = 4 * 2 ^ 1020 := by
    rw [pow_add (2 : ℝ) 2 1020]
    norm_num
  have hpos : (0 : ℝ) < 2 ^ 1020 := by positivity
  refine ⟨1022, 2 ^ 52, by decide, ?_⟩
  rw [hneg, signed_false, hx]
  clear hx
  generalize (2 : ℝ) ^ 1020 = u at hk hpos
  refine ⟨⟨?_, ?_, .inr ?_, by positivity⟩, ?_, fun _ => by norm_num⟩ <;> rw [hk] <;> clear hk <;> norm_num <;> linarith

theorem le_one_of_isRounding {r : ℝ} {z : Num64} (h : IsRounding r z) (hr : r ≤ 1 + 1 / 2 ^ 54) : le z one = true :=
  h.le isRounding_one hr

theorem negOne_le_of_isRounding {r : ℝ} {z : Num64} (h : IsRounding r z) (hr : -(1 + 1 / 2 ^ 54) ≤ r) : le negOne z = true :=
  (show Sys2Proof.F64.negate one = negOne by decide) ▸ isRounding_one.negate.le h hr

/-- The unit's interpolation between two samples of `[-1, 1]` that are at most 1 apart stays in `[-1, 1]`: at its far end the difference is
off by less than what still rounds to 1. -/
theorem interpolation_unit {v0 v1 phi : Num64} (hf0 : isFinite v0 = true) (hf1 : isFinite v1 = true) (hphi : isFinite phi = true)
    (h0 : 0 ≤ value phi) (h1 : value phi ≤ 1) (hv0 : |value v0| ≤ 1) (hv1 : |value v1| ≤ 1)
    (hd : |value v1 - value v0| ≤ 1) :
    le negOne (add v0 (mul phi (sub v1 v0))) = true ∧ le (add v0 (mul phi (sub v1 v0))) one = true := by
  have hd' : |(value v1 : ℝ) - value v0| ≤ 1 := by exact_mod_cast hd
  have hv0' : |(value v0 : ℝ)| ≤ 1 := by exact_mod_cast hv0
  have hv1' : |(value v1 : ℝ)| ≤ 1 := by exact_mod_cast hv1
  have hround := isRounding_sub hf1 hf0
  have herror := abs_le.1 (hround.error_le hd')
  have hdfin := hround.roundsTo.finite (hd'.trans_lt one_lt_overflowBound)
  have hself := isRounding_value hf0
  have hend := isRounding_add hf0 hdfin
  have hb0 := abs_le.1 hv0'
  have hb1 := abs_le.1 hv1'
  have hsmall : (0 : ℝ) ≤ 1 / 2 ^ 54 := by positivity
  exact interpolation_bounded hf0 hdfin hphi h0 h1 (negOne_le_of_isRounding hself (by linarith))
    (negOne_le_of_isRounding hend (by linarith)) (le_one_of_isRounding hself (by linarith)) (le_one_of_isRounding hend (by linarith))

end Sys2Proof.F64

namespace Sys2Proof.Machine

/-! ### The phase within one turn -/

/-- `SIN2PI` from the fractional part `t` of its phase on (40_function_units.md R107). -/
def sineOfFraction (lutBits : Nat) (t : Num64) : Num64 :=
  let s := F64.mul t (F64.ofNat (2 ^ lutBits))
  let i := (F64.floor s).toNat
  let v0 := wave lutBits (i % 2 ^ lutBits)
  F64.add v0 (F64.mul (F64.sub s (F64.ofNat i)) (F64.sub (wave lutBits ((i + 1) % 2 ^ lutBits)) v0))

theorem sin2pi_eq_sineOfFraction (lutBits : Nat) {p : Num64} (h : F64.isFinite p = true) :
    sin2pi lutBits p = sineOfFraction lutBits (F64.sub p (F64.ofInt (F64.floor p))) := if_pos h

theorem isFinite_fraction {p : Num64} (h : F64.isFinite p = true) : F64.isFinite (F64.sub p (F64.ofInt (F64.floor p))) = true :=
  F64.isFinite_of_between F64.isFinite_posZero (by decide) (F64.fraction_bounds h).1 (F64.fraction_bounds h).2

theorem isNaN_ofNat (n : Nat) : F64.isNaN (F64.ofNat n) = false := F64.isNaN_mk (F64.roundMag_le _ _)

theorem toNat_emod_two_pow (i l : Nat) : ((i : Int) % 2 ^ l).toNat = i % 2 ^ l := by
  rw [← Nat.cast_ofNat, ← Nat.cast_pow, ← Int.natCast_mod, Int.toNat_natCast]

/-- The formula of R107 with the integer part as it stands there, an integer. -/
theorem sin2pi_formula (lutBits : Nat) {p : Num64} (h : F64.isFinite p = true) :
    let t := F64.sub p (F64.ofInt (F64.floor p))
    let s := F64.mul t (F64.ofNat (2 ^ lutBits))
    let i : Int := F64.floor s
    let phi := F64.sub s (F64.ofInt i)
    let v0 := wave lutBits (i % 2 ^ lutBits).toNat
    let v1 := wave lutBits ((i + 1) % 2 ^ lutBits).toNat
    sin2pi lutBits p = F64.add v0 (F64.mul phi (F64.sub v1 v0)) := by
  intro t s i phi v0 v1
  obtain ⟨n, hn⟩ : ∃ n : Nat, i = n :=
    Int.eq_ofNat_of_zero_le (F64.floor_mul_nonneg (F64.fraction_bounds h).1 (isFinite_fraction h) (isNaN_ofNat _) (F64.neg_ofNat _))
  have hsucc : i + 1 = (n + 1 : Nat) := by rw [hn, Nat.cast_succ]
  have hnat : (F64.floor s).toNat = n := congrArg Int.toNat hn
  simp only [v0, v1, phi, hsucc, toNat_emod_two_pow]
  simp only [hn, toNat_emod_two_pow]
  rw [sin2pi_eq_sineOfFraction lutBits h, sineOfFraction, hnat, F64.ofNat_eq_ofInt n]

/-! ### The full wave -/

/-- The quadrant and the place in it decide the sample (R111). -/
theorem wave_quadrant {l k r : Nat} (hr : r < 2 ^ l / 4) :
    (k * (2 ^ l / 4) + r) / (2 ^ l / 4) = k ∧ (k * (2 ^ l / 4) + r) % (2 ^ l / 4) = r := by
  rw [Nat.mul_comm, Nat.mul_add_div (by omega), Nat.mul_add_mod, Nat.div_eq_of_lt hr, Nat.mod_eq_of_lt hr, Nat.add_zero]
  exact ⟨rfl, rfl⟩

theorem wave_first {l r : Nat} (hr : r < 2 ^ l / 4) : wave l r = sinq l r := by
  obtain ⟨hdiv, hmod⟩ := wave_quadrant (k := 0) hr
  rw [Nat.zero_mul, Nat.zero_add] at hdiv hmod
  simp only [wave, hdiv, hmod]

theorem wave_second {l r : Nat} (hr : r < 2 ^ l / 4) : wave l (2 ^ l / 4 + r) = sinq l (2 ^ l / 4 - r) := by
  obtain ⟨hdiv, hmod⟩ := wave_quadrant (k := 1) hr
  rw [Nat.one_mul] at hdiv hmod
  simp only [wave, hdiv, hmod]

theorem wave_third {l r : Nat} (hr : r < 2 ^ l / 4) : wave l (2 * (2 ^ l / 4) + r) = F64.sub F64.posZero (sinq l r) := by
  obtain ⟨hdiv, hmod⟩ := wave_quadrant (k := 2) hr
  simp only [wave, hdiv, hmod]

theorem wave_fourth {l r : Nat} (hr : r < 2 ^ l / 4) :
    wave l (3 * (2 ^ l / 4) + r) = F64.sub F64.posZero (sinq l (2 ^ l / 4 - r)) := by
  obtain ⟨hdiv, hmod⟩ := wave_quadrant (k := 3) hr
  simp only [wave, hdiv, hmod]

/-- The second half of the wave is the first with the sign changed. -/
theorem wave_half_turn {l i : Nat} (hi : i < 2 * (2 ^ l / 4)) : wave l (i + 2 * (2 ^ l / 4)) = F64.sub F64.posZero (wave l i) := by
  rcases Nat.lt_or_ge i (2 ^ l / 4) with h | h
  · rw [Nat.add_comm, wave_third h, wave_first h]
  · obtain ⟨r, rfl⟩ := Nat.exists_eq_add_of_le h
    have hr : r < 2 ^ l / 4 := by omega
    have hplace : 2 ^ l / 4 + r + 2 * (2 ^ l / 4) = 3 * (2 ^ l / 4) + r := by omega
    rw [hplace, wave_fourth hr, wave_second hr]

/-! ### The reference table size -/

/-- No entry of the reference table exceeds 1. -/
theorem sinqTable_le_one : ∀ n ∈ sinqTable, n ≤ 0x3FF0000000000000 := by decide +kernel

theorem sinq_unit (q : Nat) : F64.isFinite (sinq 10 q) = true ∧ 0 ≤ F64.value (sinq 10 q) ∧ F64.value (sinq 10 q) ≤ 1 := by
  have hle : sinqTable.getD q 0 ≤ 0x3FF0000000000000 := by
    rw [List.getD_eq_getElem?_getD]
    cases hq : sinqTable[q]? with
    | none => exact Nat.zero_le _
    | some n => exact sinqTable_le_one n (List.mem_of_getElem? hq)
  rw [sinq, if_pos rfl, ← F64.mk_false]
  generalize sinqTable.getD q 0 = n at hle
  have hlt : n < 2 ^ 63 := by omega
  have hNaN : F64.isNaN (F64.mk false n) = false := F64.isNaN_mk (hle.trans (by decide))
  have h0 : F64.le F64.posZero (F64.mk false n) = true := F64.le_posZero_mk (hle.trans (by decide)) (by simp)
  have h1 : F64.le (F64.mk false n) F64.one = true := by
    have hone : F64.key F64.one = 0x3FF0000000000000 := by decide
    rw [F64.le_iff, hone, F64.key, F64.neg_mk false hlt, F64.mag_mk false hlt, if_neg Bool.false_ne_true]
    exact ⟨hNaN, by decide, by exact_mod_cast hle⟩
  have hlow := F64.value_le_of_le h0
  have hhigh := F64.value_le_of_le h1
  rw [F64.value_posZero] at hlow
  rw [F64.value_one] at hhigh
  exact ⟨F64.isFinite_of_between F64.isFinite_posZero (by decide) h0 h1, hlow, hhigh⟩

/-- The samples of the first half of the wave lie in `[0, 1]`. -/
theorem wave_unit {i : Nat} (hi : i < 512) : F64.isFinite (wave 10 i) = true ∧ 0 ≤ F64.value (wave 10 i) ∧ F64.value (wave 10 i) ≤ 1 := by
  rcases Nat.lt_or_ge i 256 with h | h
  · rw [wave_first (l := 10) h]
    exact sinq_unit i
  · obtain ⟨r, rfl⟩ := Nat.exists_eq_add_of_le h
    have hr : r < 2 ^ 10 / 4 := by omega
    rw [show 256 + r = 2 ^ 10 / 4 + r by rfl, wave_second hr]
    exact sinq_unit _

/-- Those of the second half are their exact negatives. -/
theorem value_wave_half_turn {i : Nat} (hi : i < 512) :
    F64.isFinite (wave 10 (i + 512)) = true ∧ F64.value (wave 10 (i + 512)) = -F64.value (wave 10 i) := by
  have hfin := (wave_unit hi).1
  have hround := F64.isRounding_sub F64.isFinite_posZero hfin
  rw [F64.value_posZero, Rat.cast_zero, zero_sub, ← Rat.cast_neg, ← F64.value_negate] at hround
  rw [show i + 512 = i + 2 * (2 ^ 10 / 4) by rfl, wave_half_turn (l := 10) hi, ← F64.value_negate]
  exact hround.exact ((F64.isFinite_negate _).trans hfin) rfl

/-- The wave passes through zero at both half turns. -/
theorem value_wave_zero : F64.value (wave 10 0) = 0 ∧ F64.value (wave 10 512) = 0 := by
  have hzero : F64.value (wave 10 0) = 0 := by rw [wave_first (l := 10) (by norm_num), sinq_zero, F64.value_posZero]
  exact ⟨hzero, by rw [(value_wave_half_turn (i := 0) (by norm_num)).2, hzero, neg_zero]⟩

/-- At a fraction that is a zero of either sign. -/
theorem sineOfFraction_zero (b : Bool) : sineOfFraction 10 (F64.mk b 0) = F64.posZero := by
  cases b <;> decide +kernel

theorem sin2pi_of_whole {p : Num64} (h : F64.isFinite p = true) (hwhole : F64.value p = F64.floor p) : sin2pi 10 p = F64.posZero := by
  obtain ⟨hfloor, hvalue⟩ := F64.floor_exact h
  have hround := F64.isRounding_sub h hfloor
  rw [hvalue, hwhole, sub_self] at hround
  rw [sin2pi_eq_sineOfFraction 10 h]
  generalize F64.sub p (F64.ofInt (F64.floor p)) = t at hround
  have hmag : F64.mag t = 0 := of_decide_eq_true hround.isZero
  rw [← F64.mk_neg_mag t, hmag]
  exact sineOfFraction_zero _

/-- The scaled phase and its integer part, for a fraction in `[0, 1]`. -/
theorem scaledPhase_bounds {t : Num64} (h0 : F64.le F64.posZero t = true) (h1 : F64.le t F64.one = true) :
    F64.isFinite (F64.mul t (F64.ofNat 1024)) = true ∧ 0 ≤ F64.value (F64.mul t (F64.ofNat 1024)) := by
  have hfin := F64.isFinite_of_between F64.isFinite_posZero (by decide) h0 h1
  have hsize := F64.isFinite_ofNat (n := 1024) (by norm_num)
  have hround := F64.isRounding_mul hfin hsize
  have hself := F64.isRounding_value hsize
  have hlow := F64.value_le_of_le h0
  have hhigh := F64.value_le_of_le h1
  have hsize0 : (0 : ℝ) ≤ F64.value (F64.ofNat 1024) := by
    rw [F64.value_cast, F64.scaled_of_nonneg (F64.neg_ofNat _)]
    positivity
  rw [F64.value_posZero] at hlow
  rw [F64.value_one] at hhigh
  have hlow' : (0 : ℝ) ≤ F64.value t := by exact_mod_cast hlow
  have hhigh' : (F64.value t : ℝ) ≤ 1 := by exact_mod_cast hhigh
  have hge := (F64.isRounding_zero F64.isZero_posZero).le hround (mul_nonneg hlow' hsize0)
  have hle := hround.le hself (mul_le_of_le_one_left hsize0 hhigh')
  have hval := F64.value_le_of_le hge
  rw [F64.value_posZero] at hval
  exact ⟨F64.isFinite_of_between F64.isFinite_posZero hsize hge hle, hval⟩

/-- Neighbouring samples lie in one half of the wave, so they are at most 1 apart. -/
theorem neighbours_bounded (n : Nat) : F64.isFinite (wave 10 (n % 1024)) = true ∧ F64.isFinite (wave 10 ((n + 1) % 1024)) = true ∧
    |F64.value (wave 10 (n % 1024))| ≤ 1 ∧ |F64.value (wave 10 ((n + 1) % 1024))| ≤ 1 ∧
    |F64.value (wave 10 ((n + 1) % 1024)) - F64.value (wave 10 (n % 1024))| ≤ 1 := by
  obtain ⟨hstart, hmiddle⟩ := value_wave_zero
  have hfirst (i : Nat) (hi : i ≤ 512) : F64.isFinite (wave 10 i) = true ∧ 0 ≤ F64.value (wave 10 i) ∧ F64.value (wave 10 i) ≤ 1 := by
    rcases Nat.lt_or_eq_of_le hi with h | rfl
    · exact wave_unit h
    · exact ⟨(value_wave_half_turn (i := 0) (by norm_num)).1, hmiddle.ge, hmiddle.le.trans zero_le_one⟩
  have hsecond (i : Nat) (hi : 512 ≤ i ∧ i ≤ 1024) : F64.isFinite (wave 10 (i % 1024)) = true ∧
      -1 ≤ F64.value (wave 10 (i % 1024)) ∧ F64.value (wave 10 (i % 1024)) ≤ 0 := by
    rcases Nat.lt_or_eq_of_le hi.2 with h | rfl
    · obtain ⟨r, rfl⟩ := Nat.exists_eq_add_of_le' hi.1
      obtain ⟨-, hlow, hhigh⟩ := wave_unit (i := r) (by omega)
      obtain ⟨hfin, hvalue⟩ := value_wave_half_turn (i := r) (by omega)
      rw [Nat.mod_eq_of_lt h, hvalue]
      exact ⟨hfin, by linarith, by linarith⟩
    · exact ⟨(wave_unit (i := 0) (by norm_num)).1, by rw [Nat.mod_self, hstart]; norm_num, by rw [Nat.mod_self, hstart]⟩
  have hlt : n % 1024 < 1024 := Nat.mod_lt _ (by norm_num)
  rw [← Nat.mod_add_mod n 1024 1]
  generalize n % 1024 = j at hlt
  rcases Nat.lt_or_ge j 512 with h | h
  · obtain ⟨hf0, hlow0, hhigh0⟩ := hfirst j (by omega)
    obtain ⟨hf1, hlow1, hhigh1⟩ := hfirst (j + 1) (by omega)
    rw [Nat.mod_eq_of_lt (by omega : j + 1 < 1024)]
    refine ⟨hf0, hf1, ?_⟩
    simp only [abs_le]
    refine ⟨⟨?_, ?_⟩, ⟨?_, ?_⟩, ?_, ?_⟩ <;> linarith
  · obtain ⟨hf0, hlow0, hhigh0⟩ := hsecond j ⟨h, hlt.le⟩
    obtain ⟨hf1, hlow1, hhigh1⟩ := hsecond (j + 1) ⟨by omega, hlt⟩
    rw [Nat.mod_eq_of_lt hlt] at hf0 hlow0 hhigh0
    refine ⟨hf0, hf1, ?_⟩
    simp only [abs_le]
    refine ⟨⟨?_, ?_⟩, ⟨?_, ?_⟩, ?_, ?_⟩ <;> linarith

theorem sineOfFraction_bounded {t : Num64} (h0 : F64.le F64.posZero t = true) (h1 : F64.le t F64.one = true) :
    F64.le F64.negOne (sineOfFraction 10 t) = true ∧ F64.le (sineOfFraction 10 t) F64.one = true := by
  obtain ⟨hfin, hnonneg⟩ := scaledPhase_bounds h0 h1
  rw [sineOfFraction, show 2 ^ 10 = 1024 by norm_num]
  generalize F64.mul t (F64.ofNat 1024) = s at hfin hnonneg
  obtain ⟨n, hn⟩ : ∃ n : Nat, F64.floor s = n := by
    refine Int.eq_ofNat_of_zero_le ?_
    rw [F64.floor_eq_floor_value]
    exact Int.floor_nonneg.2 hnonneg
  obtain ⟨hphi, hvalue⟩ := F64.value_sub_ofInt_floor hfin hnonneg
  have hlow := F64.floor_le_value s
  have hhigh := F64.value_lt_floor_add_one s
  obtain ⟨hf0, hf1, hv0, hv1, hd⟩ := neighbours_bounded n
  rw [hn, ← F64.ofNat_eq_ofInt] at hphi hvalue
  rw [hn] at hlow hhigh
  simp only [hn, Int.toNat_natCast]
  exact F64.interpolation_unit hf0 hf1 hphi (by rw [hvalue]; linarith) (by rw [hvalue]; linarith) hv0 hv1 hd

/-- Settles O59: the formulas from the definitions, the reference table size by its samples. -/
theorem sineUnit : Obligations.SineUnit := by
  refine ⟨fun lutBits p h => sin2pi_formula lutBits h, fun lutBits p h => ?_, fun _ _ => rfl, fun _ _ _ => rfl, fun l i _ => ?_,
    fun p h hwhole => sin2pi_of_whole h hwhole, by decide +kernel, by decide +kernel, by decide +kernel, fun p h => ?_⟩
  · rw [sin2pi, h]
    rfl
  · exact ⟨fun hi => ⟨wave_first hi, wave_second hi⟩, wave_half_turn⟩
  · rw [sin2pi_eq_sineOfFraction 10 h]
    exact sineOfFraction_bounded (F64.fraction_bounds h).1 (F64.fraction_bounds h).2

end Sys2Proof.Machine
end

section
/-! PROOF. The operator contract (41_operator_contract_sys.md), first part: `SYS.NOP` and `SYS.RSTALL` (R128, R129), and a `CFG` given twice
(R123). -/

namespace Sys2Proof.Machine

/-! ### The reset of the bank's phases -/

/-- What a read finds after the phases of the `n` slots from `h` up are zeroed (45_harmonic.md R204). -/
theorem read_harmClear (n h a : Nat) {m : Memory} (hm : m.wf = true) :
    (harmClear n h m).read a =
      if harmPhaseBase + h ≤ a ∧ a < harmPhaseBase + h + n then F64.posZero else m.read a := by
  induction n generalizing h m with
  | zero => exact (if_neg (by omega)).symm
  | succ n ih =>
    have hslots : harmPhaseBase + h ≤ a ∧ a < harmPhaseBase + h + (n + 1) ↔
        (harmPhaseBase + (h + 1) ≤ a ∧ a < harmPhaseBase + (h + 1) + n) ∨ a = harmPhaseBase + h := by omega
    rw [harmClear, ih (h + 1) (Memory.write_wf _ _ hm), Memory.read_write _ _ _ hm, if_congr hslots rfl rfl, ite_or]

/-- Settles O24: both commands by their definitions, the phases by `read_harmClear`. -/
theorem sysCommands : Obligations.SysCommands := by
  refine ⟨by decide, by decide, fun s => ⟨rfl, harmClear s.conf.harmMax 0 s.mem, rfl, rfl, fun hwf => ⟨fun h hh => ?_, fun a ha => ?_⟩⟩⟩
  · rw [read_harmClear _ _ _ hwf, harmPhaseBase]
    exact if_pos (by omega)
  · rw [read_harmClear _ _ _ hwf, harmPhaseBase]
    refine if_neg fun hin => ha (a - 0x01000) ?_ ?_ <;> omega

/-! ### Canonical memories are equal when they read alike -/

/-- Nothing is listed below the head of a canonical memory. -/
theorem Memory.head_le_of_read_ne {b k : Nat} {v : Num64} {m : Memory} (hm : Memory.wf ((b, v) :: m) = true)
    (h : Memory.read ((b, v) :: m) k ≠ unlistedWord) : b ≤ k := by
  obtain ⟨-, habove, -⟩ := (Memory.wf_cons b v m).1 hm
  by_contra hlt
  rw [not_le] at hlt
  exact h (Memory.read_of_above ((Memory.above_cons k b v m).2 ⟨hlt, Memory.above_mono hlt.le habove⟩))

theorem Memory.read_cons (a b : Nat) (v : Num64) (m : Memory) :
    Memory.read ((b, v) :: m) a = if a = b then v else m.read a := rfl

theorem Memory.read_head_ne {b : Nat} {v : Num64} {m : Memory} (hm : Memory.wf ((b, v) :: m) = true) :
    Memory.read ((b, v) :: m) b ≠ unlistedWord := by
  rw [Memory.read_cons, if_pos rfl]
  exact ((Memory.wf_cons b v m).1 hm).1

theorem Memory.eq_of_read_eq {m n : Memory} (hm : m.wf = true) (hn : n.wf = true) (h : ∀ a, m.read a = n.read a) : m = n := by
  induction m generalizing n with
  | nil =>
    cases n with
    | nil => rfl
    | cons d n => exact absurd (h d.1).symm (Memory.read_head_ne hn)
  | cons c m ih =>
    obtain ⟨b, v⟩ := c
    cases n with
    | nil => exact absurd (h b) (Memory.read_head_ne hm)
    | cons d n =>
      obtain ⟨b', v'⟩ := d
      obtain rfl : b = b' := Nat.le_antisymm
        (Memory.head_le_of_read_ne hm (h b' ▸ Memory.read_head_ne hn))
        (Memory.head_le_of_read_ne hn (h b ▸ Memory.read_head_ne hm))
      obtain ⟨-, habove, hwf⟩ := (Memory.wf_cons b v m).1 hm
      obtain ⟨-, habove', hwf'⟩ := (Memory.wf_cons b v' n).1 hn
      simp only [Memory.read_cons] at h
      obtain rfl : v = v' := by simpa using h b
      rw [ih hwf hwf' fun a => ?_]
      by_cases hab : a = b
      · rw [hab, Memory.read_of_above habove, Memory.read_of_above habove']
      · simpa [hab] using h a

/-! ### Filling the bank twice -/

/-- At every address `F` leaves what stood there or puts a word that does not depend on the memory: so does every series of writes of
fixed words, its addresses repeated or not. -/
structure Memory.Overwrites (F : Memory → Memory) : Prop where
  wf : ∀ m, m.wf = true → (F m).wf = true
  read : ∀ a, (∀ m, m.wf = true → (F m).read a = m.read a) ∨ ∃ v, ∀ m, m.wf = true → (F m).read a = v

theorem Memory.Overwrites.after_write {F : Memory → Memory} (h : Memory.Overwrites F) (a : Nat) (v : Num64) :
    Memory.Overwrites fun m => F (m.write a v) where
  wf m hm := h.wf _ (Memory.write_wf a v hm)
  read k := by
    obtain hkeep | ⟨w, hput⟩ := h.read k
    · by_cases hk : k = a
      · exact .inr ⟨v, fun m hm => by rw [hkeep _ (Memory.write_wf a v hm), hk, Memory.read_write_same a v hm]⟩
      · exact .inl fun m hm => by rw [hkeep _ (Memory.write_wf a v hm), Memory.read_write_other v m hk]
    · exact .inr ⟨w, fun m hm => hput _ (Memory.write_wf a v hm)⟩

theorem Memory.Overwrites.idempotent {F : Memory → Memory} (h : Memory.Overwrites F) {m : Memory} (hm : m.wf = true) :
    F (F m) = F m := by
  have hF := h.wf m hm
  refine Memory.eq_of_read_eq (h.wf _ hF) hF fun a => ?_
  obtain hkeep | ⟨v, hput⟩ := h.read a
  · exact hkeep _ hF
  · rw [hput _ hF, hput m hm]

theorem harmFill_overwrites (l : Nat) (finc : Num64) (q : HarmParams) (n h : Nat) :
    Memory.Overwrites (harmFill l finc q n h) := by
  induction n generalizing h with
  | zero => exact ⟨fun _ hm => hm, fun _ => .inl fun _ _ => rfl⟩
  | succ n ih => exact ((ih (h + 1)).after_write _ _).after_write _ _

/-! ### A command template given twice -/

theorem markConfigured_markConfigured (s : State) (u : DspUnit) :
    (s.markConfigured u).markConfigured u = s.markConfigured u := by
  simp only [State.markConfigured, BitVec.or_assoc, BitVec.or_self]

theorem recordError_recordError (c : ErrCause) (info : Word32) (v : Num64) (s : State) :
    recordError c info v (recordError c info v s) = recordError c info v s := by
  simp only [recordError, setFlag, BitVec.or_assoc, BitVec.or_self]

/-- A store that is idempotent and neither reads nor writes `CFGVALID` stays so with the unit's bit set after it. -/
theorem store_markConfigured_twice {f : State → State} {u : DspUnit} {s : State}
    (hmark : f ((f s).markConfigured u) = (f (f s)).markConfigured u) (hf : f (f s) = f s) :
    (f ((f s).markConfigured u)).markConfigured u = (f s).markConfigured u := by
  rw [hmark, hf, markConfigured_markConfigured]

/-- Giving command `i` in the state it left leaves that state as it is. -/
def Repeatable (i : Instr) (s : State) : Prop := ∀ t, exec i s = .next t → exec i t = .next t

theorem repeatable_of_idempotent {i : Instr} {s : State} (f : State → State) (hexec : ∀ s, exec i s = .next (f s))
    (hf : f (f s) = f s) : Repeatable i s := by
  intro t ht
  obtain rfl : f s = t := Host.Outcome.next.inj ((hexec s).symm.trans ht)
  rw [hexec, hf]

/-- A `CFG` with a validation: what it records or stores changes none of the operands, so it is validated alike the second time. -/
theorem repeatable_of_whenValid {α : Type} {i : Instr} {s : State} (check : State → Except (ErrCause × Num64) α)
    (store : α → State → State) (hexec : ∀ s, exec i s = .next (whenValid i s (check s) (store · s)))
    (hrecord : ∀ c v, check (recordError c (encode i) v s) = check s) (hkeep : ∀ a, check (store a s) = check s)
    (hstore : ∀ a, store a (store a s) = store a s) : Repeatable i s := by
  refine repeatable_of_idempotent _ hexec ?_
  obtain ⟨a, ha, hw⟩ | ⟨c, v, he, hw⟩ := whenValid_cases i s (check s) (store · s)
  · rw [hw, hkeep, ha]
    exact hstore a
  · rw [hw, hrecord, he]
    exact recordError_recordError c _ v s

/-! ### The `CFG` commands given twice -/

theorem rcSet_rcSet (srate f : Num64) (l : RcLeg) : rcSet srate (rcSet srate l f) f = rcSet srate l f := by
  unfold rcSet
  split <;> rfl

/-- A history already cut to `n` entries is not cut again (46_delay.md R217). -/
theorem delayConfigure_delayConfigure (n : Nat) (fb : Num64) (d : Delay) :
    delayConfigure n fb (delayConfigure n fb d) = delayConfigure n fb d := by
  have hcut : (d.fifo.drop (d.len - n)).length - n = 0 := by
    rw [List.length_drop, Delay.len]
    omega
  simp only [delayConfigure, Delay.len] at hcut ⊢
  rw [hcut, List.drop_zero]

/-- What `HARM.CFG` writes besides its `CFGVALID` bit (45_harmonic.md R200). -/
def harmStore (q : HarmParams) (s : State) : State :=
  let c := harmCount s.conf.harmMax q.count
  let finc := F64.div F64.one s.srate
  { s with
    harm := { count := BitVec.ofNat 32 c, basef := q.basef, offset := q.offset, center := q.center, width := q.width,
              master := q.master, finc := finc }
    mem := harmFill s.conf.lutBits finc q c 0 s.mem }

theorem harmConfigure_eq_harmStore (q : HarmParams) (s : State) : harmConfigure q s = (harmStore q s).markConfigured .harm := rfl

theorem harmStore_harmStore {s : State} (hwf : s.mem.wf = true) (q : HarmParams) : harmStore q (harmStore q s) = harmStore q s :=
  congrArg (fun m => { harmStore q s with mem := m }) ((harmFill_overwrites s.conf.lutBits _ q _ 0).idempotent hwf)

theorem repeatable_sineCfg (s : State) : Repeatable .sineCfg s :=
  repeatable_of_idempotent _ (fun _ => rfl) (store_markConfigured_twice
    (f := fun s => { s with sine := { s.sine with freq := arg0 s, inc := F64.div (arg0 s) s.srate } }) rfl rfl)

theorem repeatable_lp1Cfg (s : State) : Repeatable .lp1Cfg s :=
  repeatable_of_whenValid (fun s => lp1Check (arg0 s)) _ (fun _ => rfl) (fun _ _ => rfl) (fun _ => rfl) fun k =>
    store_markConfigured_twice (f := fun s => { s with lp1 := { s.lp1 with k := k } }) rfl rfl

theorem repeatable_rclpCfg (s : State) : Repeatable .rclpCfg s :=
  repeatable_of_idempotent _ (fun _ => rfl) (store_markConfigured_twice
    (f := fun s => { s with rclp := rcSet s.srate s.rclp (arg0 s) }) rfl
    (congrArg (fun l => { s with rclp := l }) (rcSet_rcSet s.srate (arg0 s) s.rclp)))

theorem repeatable_rcbpCfg (s : State) : Repeatable .rcbpCfg s :=
  repeatable_of_idempotent _ (fun _ => rfl) (store_markConfigured_twice
    (f := fun s => { s with rcbp := { hp := rcSet s.srate s.rcbp.hp (arg0 s), lp := rcSet s.srate s.rcbp.lp (arg1 s) } }) rfl
    (congrArg₂ (fun h l => { s with rcbp := { hp := h, lp := l } }) (rcSet_rcSet s.srate (arg0 s) s.rcbp.hp)
      (rcSet_rcSet s.srate (arg1 s) s.rcbp.lp)))

theorem repeatable_moogCfg (s : State) : Repeatable .moogCfg s :=
  repeatable_of_idempotent _ (fun _ => rfl) (store_markConfigured_twice
    (f := fun s => { s with moog := moogConfigure s.srate s.moog (arg0 s) (arg1 s) }) rfl rfl)

theorem bwStore_bwStore (mode : Word32) (gain : Num64) (d : BwCoefs) (s : State) :
    bwStore mode gain d (bwStore mode gain d s) = bwStore mode gain d s :=
  store_markConfigured_twice
    (f := fun s => { s with bw := { s.bw with mode := mode, gain := gain, s0 := { s.bw.s0 with coefs := d } } }) rfl rfl

theorem repeatable_bwCfg (s : State) : Repeatable .bwCfg s :=
  repeatable_of_whenValid (fun s => bwDesign s.conf s.srate (arg0 s) (arg1 s) (arg2 s) (arg3 s)) _ (fun _ => rfl) (fun _ _ => rfl)
    (fun _ => rfl) fun d => bwStore_bwStore bwModeRaw F64.one d s

theorem repeatable_bwCfgLp (s : State) : Repeatable .bwCfgLp s :=
  repeatable_of_whenValid (fun s => bwWrapDesign s.conf s.srate (arg0 s) (bwFstopAbove (arg0 s) (arg2 s))) _ (fun _ => rfl)
    (fun _ _ => rfl) (fun _ => rfl) fun d => bwStore_bwStore bwModeLp (arg1 s) d s

theorem repeatable_bwCfgHp (s : State) : Repeatable .bwCfgHp s :=
  repeatable_of_whenValid (fun s => bwWrapDesign s.conf s.srate (arg0 s) (bwFstopBelow (arg0 s) (arg2 s))) _ (fun _ => rfl)
    (fun _ _ => rfl) (fun _ => rfl) fun d => bwStore_bwStore bwModeHp (arg1 s) d s

theorem repeatable_bwCfgBp (s : State) : Repeatable .bwCfgBp s :=
  repeatable_of_whenValid (fun s => bwBandDesign s.conf s.srate (arg0 s) (arg2 s)) _ (fun _ => rfl) (fun _ _ => rfl)
    (fun _ => rfl) fun d => store_markConfigured_twice
      (f := fun s => { s with bw :=
        { mode := bwModeBp, gain := arg1 s, s0 := { s.bw.s0 with coefs := d.1 }, s1 := { s.bw.s1 with coefs := d.2 } } }) rfl rfl

theorem repeatable_harmCfg {s : State} (hwf : s.mem.wf = true) : Repeatable .harmCfg s :=
  repeatable_of_idempotent _ (fun s => congrArg Host.Outcome.next (harmConfigure_eq_harmStore (harmArgs s) s))
    (store_markConfigured_twice (f := fun s => harmStore (harmArgs s) s) rfl (harmStore_harmStore hwf (harmArgs s)))

theorem repeatable_delayCfg (s : State) : Repeatable .delayCfg s :=
  repeatable_of_whenValid (fun s => delayCheck s.conf.delayMax (arg0 s) (arg1 s)) _ (fun _ => rfl) (fun _ _ => rfl)
    (fun _ => rfl) fun n => store_markConfigured_twice
      (f := fun s => { s with delay := delayConfigure n (arg1 s) s.delay }) rfl
      (congrArg (fun d => { s with delay := d }) (delayConfigure_delayConfigure n (arg1 s) s.delay))

/-- Settles O42: command by command. -/
theorem configureIdempotent : Obligations.ConfigureIdempotent := by
  intro i s t hi hwf
  suffices hrepeat : Repeatable i s from hrepeat t
  simp only [cfgCommands, List.mem_cons, List.not_mem_nil, or_false] at hi
  obtain rfl | rfl | rfl | rfl | rfl | rfl | rfl | rfl | rfl | rfl | rfl := hi
  · exact repeatable_sineCfg s
  · exact repeatable_lp1Cfg s
  · exact repeatable_rclpCfg s
  · exact repeatable_rcbpCfg s
  · exact repeatable_moogCfg s
  · exact repeatable_bwCfg s
  · exact repeatable_bwCfgLp s
  · exact repeatable_bwCfgHp s
  · exact repeatable_bwCfgBp s
  · exact repeatable_harmCfg hwf
  · exact repeatable_delayCfg s

end Sys2Proof.Machine
end

section
/-! PROOF. The operator contract (41_operator_contract_sys.md), second part: silence (R125), by the zero laws of 40_function_units.md R103. -/

namespace Sys2Proof.F64

/-! ### Coefficients that stay finite -/

/-- The greatest finite magnitude. -/
def maxFinite : Num64 := 0x7FEFFFFFFFFFFFFF#64

theorem le_maxFinite {k : Num64} (h : isFinite k = true) : le (negate maxFinite) k = true ∧ le k maxFinite = true := by
  have hkey := abs_key_of_finite h
  have hnan := isNaN_eq_false_of_isFinite h
  have hmax : key maxFinite = infBits - 1 := by decide
  have hmin : key (negate maxFinite) = -infBits + 1 := by decide
  rw [F64.le_iff, F64.le_iff, hmax, hmin]
  exact ⟨⟨by decide, hnan, by omega⟩, hnan, by decide, by omega⟩

/-- `1 - k` does not overflow: it lies between its values at the two ends. -/
theorem isFinite_one_sub {k : Num64} (h : isFinite k = true) : isFinite (sub one k) = true := by
  have hone : isFinite one = true := by decide
  have hmax : isFinite maxFinite = true := by decide
  have hmin : isFinite (negate maxFinite) = true := by decide
  obtain ⟨hlow, hhigh⟩ := le_maxFinite h
  have hlow' : (value (negate maxFinite) : ℝ) ≤ value k := by exact_mod_cast value_le_of_le hlow
  have hhigh' : (value k : ℝ) ≤ value maxFinite := by exact_mod_cast value_le_of_le hhigh
  exact isFinite_of_between (a := sub one maxFinite) (b := sub one (negate maxFinite)) (by decide +kernel) (by decide +kernel)
    ((isRounding_sub hone hmax).le (isRounding_sub hone h) (by linarith))
    ((isRounding_sub hone h).le (isRounding_sub hone hmin) (by linarith))

/-- `x` lies in `[0, b]`, with `b` finite. -/
structure Below (b x : Num64) : Prop where
  finite : isFinite b = true
  lower : le posZero x = true
  upper : le x b = true

theorem Below.isFinite {b x : Num64} (h : Below b x) : isFinite x = true :=
  isFinite_of_between isFinite_posZero h.finite h.lower h.upper

/-- Products of numbers that are not negative stay below the product of the bounds. -/
theorem Below.mul {a b x y : Num64} (hx : Below a x) (hy : Below b y) (hfin : F64.isFinite (mul a b) = true) :
    Below (mul a b) (mul x y) := by
  have hx0 : (0 : ℝ) ≤ value x := by exact_mod_cast value_posZero ▸ value_le_of_le hx.lower
  have hy0 : (0 : ℝ) ≤ value y := by exact_mod_cast value_posZero ▸ value_le_of_le hy.lower
  have hxa : (value x : ℝ) ≤ value a := by exact_mod_cast value_le_of_le hx.upper
  have hyb : (value y : ℝ) ≤ value b := by exact_mod_cast value_le_of_le hy.upper
  have hround := isRounding_mul hx.isFinite hy.isFinite
  exact ⟨hfin, (isRounding_zero isZero_posZero).le hround (mul_nonneg hx0 hy0),
    hround.le (isRounding_mul hx.finite hy.finite) (mul_le_mul hxa hyb hy0 (hx0.trans hxa))⟩

end Sys2Proof.F64

namespace Sys2Proof.Machine

/-! ### Arithmetic on silent values -/

theorem silent_posZero : silent F64.posZero := F64.isZero_posZero

theorem silent_mul {c v : Num64} (hc : F64.isFinite c = true) (hv : silent v) : silent (F64.mul c v) ∧ silent (F64.mul v c) := by
  have hfin := F64.isFinite_of_isZero hv
  obtain ⟨hmul, -⟩ := F64.zeroAndMonotoneRounding c v c v hc hfin hc hfin
  exact hmul hv

theorem silent_add_sub {v w : Num64} (hv : silent v) (hw : silent w) : silent (F64.add v w) ∧ silent (F64.sub v w) := by
  have hv' := F64.isFinite_of_isZero hv
  have hw' := F64.isFinite_of_isZero hw
  obtain ⟨-, hadd, -⟩ := F64.zeroAndMonotoneRounding v w v w hv' hw' hv' hw'
  exact hadd hv hw

theorem silent.coef_mul {c v : Num64} (hv : silent v) (hc : F64.isFinite c = true) : silent (F64.mul c v) := (silent_mul hc hv).1
theorem silent.mul_coef {c v : Num64} (hv : silent v) (hc : F64.isFinite c = true) : silent (F64.mul v c) := (silent_mul hc hv).2
theorem silent.add {v w : Num64} (hv : silent v) (hw : silent w) : silent (F64.add v w) := (silent_add_sub hv hw).1
theorem silent.sub {v w : Num64} (hv : silent v) (hw : silent w) : silent (F64.sub v w) := (silent_add_sub hv hw).2

/-- The clip leaves both zeros as they are (40_function_units.md R109). -/
theorem silent.clip {v : Num64} (hv : silent v) : silent (clip v) := by
  have hmag : F64.mag v = 0 := of_decide_eq_true hv
  rw [← F64.mk_neg_mag v, hmag, silent]
  cases F64.neg v <;> decide

/-! ### The filters' sample steps -/

theorem lp1Process_silent {u : Lp1} {x : Num64} (hmem : silent u.mem) (hk : F64.isFinite u.k = true) (hx : silent x) :
    silent (lp1Process u x).1 :=
  (hx.coef_mul hk).add (hmem.coef_mul (F64.isFinite_one_sub hk))

theorem dcrProcess_silent {u : Dcr} {x : Num64} (hmem : silent u.mem) (hx : silent x) :
    silent (dcrProcess u x).1 ∧ silent (dcrProcess u x).2.mem := by
  have havg : silent (dcrProcess u x).2.mem := (hx.coef_mul (by decide)).add (hmem.coef_mul (by decide))
  exact ⟨hx.sub havg, havg⟩

theorem iir3Process_silent {c : Config} (hc : c.Legal) {u : Iir3} {x : Num64} (hy1 : silent u.y1) (hy2 : silent u.y2)
    (hx : silent x) : silent (iir3Process c u x).1 := by
  obtain ⟨hcx, hcy1, hcy2, hamp⟩ := hc.iir3
  exact (((hx.coef_mul hcx).add (hy1.coef_mul hcy1)).add (hy2.coef_mul hcy2)).coef_mul hamp

theorem rcStep_silent {l : RcLeg} {x : Num64} (hlast : silent l.last) (halpha : F64.isFinite l.alpha = true) (hx : silent x) :
    silent (rcStep l x).1 :=
  hlast.add ((hx.sub hlast).coef_mul halpha)

/-- The high-pass leg's low-passed sample and the result. -/
theorem rcbpProcess_silent {u : Rcbp} {x : Num64} (hhp : silent u.hp.last) (hlp : silent u.lp.last)
    (hhpa : F64.isFinite u.hp.alpha = true) (hlpa : F64.isFinite u.lp.alpha = true) (hx : silent x) :
    silent (rcbpProcess u x).2.hp.last ∧ silent (rcbpProcess u x).1 := by
  have hleg : silent (rcStep u.hp x).1 := rcStep_silent hhp hhpa hx
  exact ⟨hleg, rcStep_silent hlp hlpa (hx.sub hleg)⟩

/-! ### The ladder -/

/-- Both cells of a stage are zeros. -/
structure Stage.Silent (st : Stage) : Prop where
  prevIn : silent st.prevIn
  prevOut : silent st.prevOut

/-- All four stages are. -/
def Moog.Silent (u : Moog) : Prop := u.st1.Silent ∧ u.st2.Silent ∧ u.st3.Silent ∧ u.st4.Silent

theorem Moog.silent_iff (u : Moog) : u.Silent ↔ ∀ i : Fin 4, silent (u.stage i).prevIn ∧ silent (u.stage i).prevOut := by
  constructor
  · rintro ⟨h1, h2, h3, h4⟩ i
    match i with
    | 0 => exact ⟨h1.prevIn, h1.prevOut⟩
    | 1 => exact ⟨h2.prevIn, h2.prevOut⟩
    | 2 => exact ⟨h3.prevIn, h3.prevOut⟩
    | 3 => exact ⟨h4.prevIn, h4.prevOut⟩
  · intro h
    have stage (i : Fin 4) : (u.stage i).Silent := ⟨(h i).1, (h i).2⟩
    exact ⟨stage 0, stage 1, stage 2, stage 3⟩

theorem stageStep_silent {af u : Num64} {st : Stage} (haf : F64.isFinite af = true) (hst : st.Silent) (hu : silent u) :
    (stageStep af st u).Silent where
  prevIn := hu
  prevOut := (hu.add (hst.prevIn.coef_mul (by decide))).add (hst.prevOut.coef_mul haf)

/-- The input scale of a configured ladder is finite, for `MOOG_F` is at most `PI` (10_state.md R43, 43_moog.md R172). -/
theorem ladderScale_isFinite {u : Moog} (h : u.Legal true) : F64.isFinite (F64.mul c035013 (F64.mul u.sqf u.sqf)) = true := by
  obtain ⟨-, hsqf, -⟩ := h.derived rfl
  have hf : F64.Below numPi u.f := ⟨by decide, h.lower, h.upper⟩
  have hsquare := hf.mul hf (by decide +kernel)
  have hfourth := hsquare.mul hsquare (by decide +kernel)
  have hscale : F64.Below c035013 c035013 := ⟨by decide, by decide, by decide⟩
  rw [hsqf]
  exact (hscale.mul hfourth (by decide +kernel)).isFinite

theorem moogProcess_silent {u : Moog} (hlegal : u.Legal true) (hu : u.Silent) (haf : F64.isFinite u.af = true)
    (hfb : F64.isFinite u.fb = true) (sat : Bool) {x : Num64} (hx : silent x) :
    silent (moogProcess sat u x).1 ∧ (moogProcess sat u x).2.Silent := by
  obtain ⟨h1, h2, h3, h4⟩ := hu
  have hinput : silent (ladderInput u x) := (hx.sub (h4.prevOut.mul_coef hfb)).mul_coef (ladderScale_isFinite hlegal)
  have h1' := stageStep_silent haf h1 hinput
  have h2' := stageStep_silent haf h2 h1'.prevOut
  have h3' := stageStep_silent haf h3 h2'.prevOut
  have h4' := stageStep_silent haf h4 h3'.prevOut
  simp only [moogProcess]
  refine ⟨?_, h1', h2', h3', h4'⟩
  split
  · exact h4'.prevOut.clip
  · exact h4'.prevOut

/-! ### The biquad sections -/

/-- The history of a section is zeros and its coefficients are finite. -/
def BwSection.Silent (b : BwSection) : Prop :=
  silent b.x1 ∧ silent b.x2 ∧ silent b.y1 ∧ silent b.y2 ∧ F64.isFinite b.coefs.a0 = true ∧ F64.isFinite b.coefs.a1 = true ∧
    F64.isFinite b.coefs.a2 = true ∧ F64.isFinite b.coefs.b1 = true ∧ F64.isFinite b.coefs.b2 = true

/-- Both sections are silent. -/
def Bw.Silent (u : Bw) : Prop := u.s0.Silent ∧ u.s1.Silent

theorem Bw.silent_iff (u : Bw) : u.Silent ↔ ∀ i : Fin 2, (u.section i).Silent := by
  constructor
  · rintro ⟨h0, h1⟩ i
    match i with
    | 0 => exact h0
    | 1 => exact h1
  · exact fun h => ⟨h 0, h 1⟩

theorem secStep_silent {b : BwSection} {x : Num64} (hb : b.Silent) (hx : silent x) :
    silent (secStep b x).1 ∧ (secStep b x).2.Silent := by
  obtain ⟨hx1, hx2, hy1, hy2, ha0, ha1, ha2, hb1, hb2⟩ := hb
  have hy : silent (secStep b x).1 :=
    ((((hx.coef_mul ha0).add (hx1.coef_mul ha1)).add (hx2.coef_mul ha2)).sub (hy1.coef_mul hb1)).sub (hy2.coef_mul hb2)
  exact ⟨hy, hx, hx1, hy, hy1, ha0, ha1, ha2, hb1, hb2⟩

theorem bwProcess_silent {u : Bw} {x : Num64} (hu : u.Silent) (hgain : F64.isFinite u.gain = true) (hx : silent x) :
    silent (bwProcess u x).1 ∧ (bwProcess u x).2.Silent ∧ (bwProcess u x).2.gain = u.gain := by
  obtain ⟨h0, h1⟩ := hu
  obtain ⟨hy0, h0'⟩ := secStep_silent h0 hx
  obtain ⟨hy1, h1'⟩ := secStep_silent h1 hy0
  unfold bwProcess
  split
  · exact ⟨hy1.coef_mul hgain, ⟨h0', h1'⟩, rfl⟩
  · exact ⟨hy0.coef_mul hgain, ⟨h0', h1⟩, rfl⟩

/-! ### Every filter -/

/-- The sample step of a configured silent filter on a zero is silent (41_operator_contract_sys.md R125). -/
theorem sideProcess_silent {s : State} {sc : SideChain} (sat : Bool) {x : Num64} (hs : Inv s) (hc : s.configured sc.unit = true)
    (h : FilterSilent s sc) (hx : silent x) : silent (sideProcess sc sat x s).1 ∧ FilterSilent (sideProcess sc sat x s).2 sc := by
  cases sc with
  | lp1 =>
    obtain ⟨hmem, hk⟩ := h
    exact ⟨lp1Process_silent hmem hk hx, lp1Process_silent hmem hk hx, hk⟩
  | dcr => exact dcrProcess_silent h hx
  | iir3 =>
    obtain ⟨hy1, hy2⟩ := h
    have hy := iir3Process_silent ((Config.wellFormed_iff_legal _).1 hs.conf) hy1 hy2 hx
    exact ⟨hy, hy, hy1⟩
  | rclp =>
    obtain ⟨hlast, halpha⟩ := h
    exact ⟨rcStep_silent hlast halpha hx, rcStep_silent hlast halpha hx, halpha⟩
  | rcbp =>
    obtain ⟨hhp, hlp, hhpa, hlpa⟩ := h
    obtain ⟨hleg, hy⟩ := rcbpProcess_silent hhp hlp hhpa hlpa hx
    exact ⟨hy, hleg, hy, hhpa, hlpa⟩
  | moog =>
    obtain ⟨hstages, hf, haf, hsqf, hfb⟩ := h
    have hlegal : s.moog.Legal true := hc ▸ ((inv_iff_facts s).1 hs).moogLegal
    obtain ⟨hy, hstages'⟩ := moogProcess_silent hlegal (s.moog.silent_iff.2 hstages) haf hfb sat hx
    exact ⟨hy, (Moog.silent_iff _).1 hstages', hf, haf, hsqf, hfb⟩
  | bw =>
    obtain ⟨hgain, hsections⟩ := h
    obtain ⟨hy, hsections', hgain'⟩ := bwProcess_silent (s.bw.silent_iff.2 hsections) hgain hx
    exact ⟨hy, (congrArg F64.isFinite hgain').trans hgain, (Bw.silent_iff _).1 hsections'⟩

/-- `Y` and the delay line are no part of a filter. -/
theorem FilterSilent.withOutput {s : State} {sc : SideChain} (h : FilterSilent s sc) (d : Delay) (y : Num64) :
    FilterSilent ({ s with delay := d }.writeY y) sc := by
  cases sc <;> exact h

/-- Settles O43: the filter's sample step, its result in `Y`. -/
theorem filterSilence : Obligations.FilterSilence := by
  intro s sc sat iny hs hc h hx
  obtain ⟨hy, h'⟩ := sideProcess_silent sat hs hc h hx
  exact ⟨_, exec_filterProc sc sat iny s hc, hy, h'.withOutput _ _⟩

/-! ### The delay line -/

theorem delayTake_silent {d : Delay} (h : ∀ v ∈ d.fifo, silent v) :
    silent (delayTake d).1 ∧ ∀ v ∈ (delayTake d).2, silent v := by
  by_cases hfull : d.fifo.length = d.n.toNat
  · cases hfifo : d.fifo with
    | nil =>
      rw [delayTake, Delay.len, if_pos hfull, hfifo]
      exact ⟨silent_posZero, fun v hv => absurd hv List.not_mem_nil⟩
    | cons v rest =>
      rw [delayTake_of_full hfifo hfull]
      rw [hfifo] at h
      exact List.forall_mem_cons.1 h
  · rw [delayTake_of_filling hfull]
    exact ⟨silent_posZero, h⟩

theorem delayTotal_silent {s : State} {x : Num64} (h : DelaySilent s) (hx : silent x) : silent (delayTotal s.delay x) := by
  obtain ⟨hfifo, -, hfb⟩ := h
  exact hx.add ((delayTake_silent hfifo).1.coef_mul hfb)

/-- The delay line after a zero is pushed and a delayed sample taken (46_delay.md R218). -/
theorem delayFinish_silent {s t : State} (h : DelaySilent s) (hdelay : t.delay = s.delay) {v : Num64} (hv : silent v) :
    silent (delayFinish (delayTake s.delay) v t).y ∧ DelaySilent (delayFinish (delayTake s.delay) v t) := by
  obtain ⟨hfifo, hcell, hfb⟩ := h
  obtain ⟨hd, hrest⟩ := delayTake_silent hfifo
  rw [← hdelay] at hcell hfb
  refine ⟨hd, fun w hw => ?_, hcell, hfb⟩
  obtain hw | hw := List.mem_append.1 hw
  · exact hrest w hw
  · exact List.mem_singleton.1 hw ▸ hv

theorem delayNoTime_silent {s : State} {x : Num64} (h : DelaySilent s) (hx : silent x) :
    silent (delayNoTime x s.delay).1 ∧ DelaySilent ({ s with delay := (delayNoTime x s.delay).2 }) := by
  obtain ⟨hfifo, hcell, hfb⟩ := h
  exact ⟨hcell, hfifo, hx.add (hcell.coef_mul hfb), hfb⟩

theorem exec_delayProc_of_configured {s : State} (iny : Bool) (hc : s.configured .delay = true) :
    exec (.delayProc iny) s = .next (delayProcess (inputSample iny s) s) :=
  congrArg Host.Outcome.next (whenConfigured_of_configured _ _ hc)

theorem exec_delayProcNt_of_configured {s : State} (iny : Bool) (hc : s.configured .delay = true) :
    exec (.delayProcNt iny) s = .next ({ s with delay := (delayNoTime (inputSample iny s) s.delay).2 }.writeY
      (delayNoTime (inputSample iny s) s.delay).1) :=
  congrArg Host.Outcome.next (whenConfigured_of_configured _ _ hc)

/-- Settles O44: the total is silent, and so is what a silent side-chain makes of it. -/
theorem delaySilence : Obligations.DelaySilence := by
  intro s iny hs hc h hx
  have htotal : silent (delayTotal s.delay (inputSample iny s)) := delayTotal_silent h hx
  refine ⟨⟨_, exec_delayProc_of_configured iny hc, delayFinish_silent h rfl htotal⟩,
    ⟨_, exec_delayProcNt_of_configured iny hc, delayNoTime_silent h hx⟩, fun sc sat hsc hfilter => ?_⟩
  obtain ⟨hv, hfilter'⟩ := sideProcess_silent sat hs hsc hfilter htotal
  obtain ⟨hdelay, -⟩ := sideProcess_frame sc sat (delayTotal s.delay (inputSample iny s)) s
  obtain ⟨hy, hline⟩ := delayFinish_silent h hdelay hv
  exact ⟨_, exec_delayProcWith sc sat iny s hc hsc, hy, hline, hfilter'.withOutput _ _⟩

end Sys2Proof.Machine
end

section
/-! PROOF. The primitives (42_primitives.md R140 to R157): the commands of `SINE`, `NOISE`, `LP1`, `DCR`, `IIR3`, `RCLP` and `RCBP`. -/

namespace Sys2Proof.Machine

/-! ### Commands that follow a template -/

section Templates

variable {u : DspUnit} {i : Instr} {s run : State}

theorem exec_of_configured (hexec : exec i s = .next (whenConfigured u i s run)) (h : s.configured u = true) :
    exec i s = .next run := by
  rw [hexec, whenConfigured_of_configured i run h]

theorem exec_of_not_configured (hexec : exec i s = .next (whenConfigured u i s run)) (h : s.configured u = false) :
    exec i s = .next (recordError .notConfigured (encode i) F64.posZero s) := by
  rw [hexec, whenConfigured_of_not i run h]

end Templates

section Checks

variable {α : Type} {i : Instr} {s : State} {checked : Except (ErrCause × Num64) α} {write : α → State}

theorem exec_of_accepted (hexec : exec i s = .next (whenValid i s checked write)) {a : α} (h : checked = .ok a) :
    exec i s = .next (write a) := by
  rw [hexec, h, whenValid]

theorem exec_of_rejected (hexec : exec i s = .next (whenValid i s checked write)) {c : ErrCause} {v : Num64}
    (h : checked = .error (c, v)) : exec i s = .next (recordError c (encode i) v s) := by
  rw [hexec, h, whenValid]

end Checks

/-! ### The noise sequence -/

/-- The hard clip of any `NUM`, NaN and the infinities included, lies in `[-1, 1]` (40_function_units.md R109). -/
theorem clip_bounds (v : Num64) : F64.le F64.negOne (clip v) = true ∧ F64.le (clip v) F64.one = true := by
  unfold clip
  split
  next => decide
  next hnumber =>
    have hv : F64.isNaN v = false := eq_false_of_ne_true hnumber
    split
    next => decide
    next habove =>
      split
      next => decide
      next hbelow =>
        exact ⟨F64.le_of_not_lt hv (by decide) (eq_false_of_ne_true hbelow),
          F64.le_of_not_lt (by decide) hv (eq_false_of_ne_true habove)⟩

/-- Settles O7: the draw by its definition, the range because every element is clipped. -/
theorem noiseCommand : Obligations.NoiseCommand :=
  ⟨by decide, fun _ => rfl, fun k => clip_bounds (Config.noiseRaw k)⟩

/-! ### The oscillator -/

theorem exec_sineProc (s : State) : exec .sineProc s = .next (whenConfigured .sine .sineProc s
    ({ s with sine := (sineProcess s.conf.lutBits s.sine).2 }.writeY (sineProcess s.conf.lutBits s.sine).1)) := rfl

/-- Settles O6: the two forms of the `PROC` by its template. -/
theorem sineCommands : Obligations.SineCommands := by
  refine ⟨by decide, by decide, by decide, fun s => ⟨rfl, fun hconf => ?_, fun hconf => ?_, rfl⟩⟩
  · exact exec_of_configured (exec_sineProc s) hconf
  · exact exec_of_not_configured (exec_sineProc s) hconf

/-! ### The one-pole lowpass -/

theorem lp1Check_of_valid {k : Num64} (h : (F64.lt F64.posZero k && F64.le k F64.one) = true) : lp1Check k = .ok k := if_pos h

theorem lp1Check_of_invalid {k : Num64} (h : (F64.lt F64.posZero k && F64.le k F64.one) = false) :
    lp1Check k = .error (.lp1K, k) :=
  if_neg (ne_true_of_eq_false h)

theorem exec_lp1Cfg (s : State) : exec .lp1Cfg s = .next (whenValid .lp1Cfg s (lp1Check (arg0 s)) fun k =>
    ({ s with lp1 := { s.lp1 with k := k } }).markConfigured .lp1) := rfl

theorem exec_lp1Proc (iny : Bool) (s : State) : exec (.lp1Proc iny) s = .next (whenConfigured .lp1 (.lp1Proc iny) s
    ({ s with lp1 := (lp1Process s.lp1 (inputSample iny s)).2 }.writeY (lp1Process s.lp1 (inputSample iny s)).1)) := rfl

/-- Settles O8: the two outcomes of the check of `k`, then the two forms of the `PROC`. -/
theorem lp1Commands : Obligations.Lp1Commands := by
  refine ⟨by decide, by decide, by decide, by decide,
    fun s iny => ⟨fun hk => ?_, fun hk => ?_, fun hconf => ?_, fun hconf => ?_, rfl⟩⟩
  · exact exec_of_accepted (exec_lp1Cfg s) (lp1Check_of_valid hk)
  · exact exec_of_rejected (exec_lp1Cfg s) (lp1Check_of_invalid hk)
  · exact exec_of_configured (exec_lp1Proc iny s) hconf
  · exact exec_of_not_configured (exec_lp1Proc iny s) hconf

/-! ### The DC remover and the fixed IIR -/

/-- Settles O9: neither unit is configured, so each command is its recurrence or its reset. -/
theorem dcrAndIir3Commands : Obligations.DcrAndIir3Commands :=
  ⟨by decide, by decide, by decide, by decide, by decide, by decide, fun _ _ => ⟨rfl, rfl, rfl, rfl⟩⟩

/-! ### The RC filters -/

theorem exec_rclpProc (iny : Bool) (s : State) : exec (.rclpProc iny) s = .next (whenConfigured .rclp (.rclpProc iny) s
    ({ s with rclp := (rclpProcess s.rclp (inputSample iny s)).2 }.writeY (rclpProcess s.rclp (inputSample iny s)).1)) := rfl

theorem exec_rcbpProc (iny : Bool) (s : State) : exec (.rcbpProc iny) s = .next (whenConfigured .rcbp (.rcbpProc iny) s
    ({ s with rcbp := (rcbpProcess s.rcbp (inputSample iny s)).2 }.writeY (rcbpProcess s.rcbp (inputSample iny s)).1)) := rfl

/-- Settles O10: `rcSet` and `rcStep` are the two operations on a leg; the two forms of each `PROC` by its template. -/
theorem rcCommands : Obligations.RcCommands := by
  refine ⟨by decide, by decide, by decide, by decide, by decide, by decide, by decide, by decide, fun s iny =>
    ⟨rfl, fun hconf => ?_, fun hconf => ?_, rfl, rfl, fun hconf => ?_, fun hconf => ?_, rfl⟩⟩
  · exact exec_of_configured (exec_rclpProc iny s) hconf
  · exact exec_of_not_configured (exec_rclpProc iny s) hconf
  · exact exec_of_configured (exec_rcbpProc iny s) hconf
  · exact exec_of_not_configured (exec_rcbpProc iny s) hconf

end Sys2Proof.Machine
end

section
/-! PROOF. The ladder (43_moog.md R170 to R173): `MOOG.CFG`, `MOOG.PROC` and `MOOG.RST`. -/

namespace Sys2Proof.Machine

theorem exec_moogCfg (s : State) : exec .moogCfg s =
    .next (({ s with moog := moogConfigure s.srate s.moog (arg0 s) (arg1 s) }).markConfigured .moog) := rfl

theorem exec_moogProc (sat iny : Bool) (s : State) :
    exec (.moogProc sat iny) s = .next (whenConfigured .moog (.moogProc sat iny) s
      ({ s with moog := (moogProcess sat s.moog (inputSample iny s)).2 }.writeY
        (moogProcess sat s.moog (inputSample iny s)).1)) := rfl

/-- The result is stage 4's output, which `SAT` clips, while the stage keeps it unclipped (43_moog.md R172). -/
theorem moogProcess_result (sat : Bool) (u : Moog) (x : Num64) :
    (moogProcess sat u x).1 =
      if sat then clip (moogProcess sat u x).2.st4.prevOut else (moogProcess sat u x).2.st4.prevOut := rfl

/-- With `SAT` the ladder's result is in the range of the clip, whatever stage 4 holds. -/
theorem moogProcess_sat_bounds (u : Moog) (x : Num64) :
    F64.le F64.negOne (moogProcess true u x).1 = true ∧ F64.le (moogProcess true u x).1 F64.one = true := by
  rw [moogProcess_result, if_pos rfl]
  exact clip_bounds _

/-- Settles O13: a configured `PROC` writes the ladder's clipped result to `Y`. -/
theorem saturatedLadderBounded : Obligations.SaturatedLadderBounded := by
  refine fun s iny hconf => ⟨_, exec_of_configured (exec_moogProc true iny s) hconf, ?_⟩
  rw [writeY_y]
  exact moogProcess_sat_bounds s.moog (inputSample iny s)

/-- Settles O11: no check precedes `moogConfigure`, whose constants stand in the statement as bit patterns (10_state.md R49);
`moogReset` gives the eight cells. -/
theorem moogConfigureAndReset : Obligations.MoogConfigureAndReset := by
  refine ⟨by decide, by decide, fun s => ⟨?_, rfl⟩⟩
  rw [exec_moogCfg]
  dsimp only [moogConfigure, numPi, numTwoPi, c015, F64.one]
  rfl

/-- Settles O12: the two forms of the `PROC` by its template; the configured one is the four stages and the clip, their constants by
their bit patterns (10_state.md R49). It stands in `Ladder` because `moogProcess` itself is the model's function. -/
theorem Ladder.moogProcess : Obligations.MoogProcess := by
  refine ⟨by decide, by decide, by decide, by decide, fun s sat iny => ⟨fun hconf => ?_, fun hconf => ?_⟩⟩
  · rw [exec_of_configured (exec_moogProc sat iny s) hconf]
    dsimp only [Machine.moogProcess, ladderInput, stageStep, clip, inputSample, c03, c035013, F64.posZero, F64.one, F64.negOne]
    rfl
  · exact exec_of_not_configured (exec_moogProc sat iny s) hconf

end Sys2Proof.Machine
end

section
/-! PROOF. The Butterworth unit (44_butterworth.md R180 to R192): the design, its pole pairs, `BW.PROC`, `BW.RST` and the four
configure commands. -/

namespace Sys2Proof.Machine

/-! ### Step 1: the checks in order -/

/-- Checks run in order: the first that fails is the error, and `passed` is the answer when none does. -/
def runChecks {α : Type} (passed : α) : List (Bool × ErrCause × Num64) → Except (ErrCause × Num64) α
  | [] => .ok passed
  | (holds, error) :: rest => if !holds then .error error else runChecks passed rest

theorem runChecks_of_find?_eq_some {α : Type} (passed : α) {checks : List (Bool × ErrCause × Num64)} {holds : Bool}
    {error : ErrCause × Num64} (h : checks.find? (fun k => !k.1) = some (holds, error)) :
    runChecks passed checks = .error error := by
  induction checks with
  | nil => cases h
  | cons check rest ih =>
    obtain ⟨ok, e⟩ := check
    cases ok with
    | true => exact ih h
    | false => cases h; rfl

theorem runChecks_of_find?_eq_none {α : Type} (passed : α) {checks : List (Bool × ErrCause × Num64)}
    (h : checks.find? (fun k => !k.1) = none) : runChecks passed checks = .ok passed := by
  induction checks with
  | nil => rfl
  | cons check rest ih =>
    obtain ⟨ok, e⟩ := check
    cases ok with
    | true => exact ih h
    | false => cases h

section Design

variable {c : Config} {srate fpass fstop hpass hstop : Num64}

theorem bwValidate_eq_runChecks (lutBits : Nat) (srate fpass fstop hpass hstop : Num64) :
    bwValidate lutBits srate fpass fstop hpass hstop =
      runChecks (tanw lutBits srate fpass, tanw lutBits srate fstop) (bwChecks lutBits srate fpass fstop hpass hstop) := by
  simp only [bwValidate, bwChecks, strictlyBetween, runChecks, Bool.not_not]
  rfl

theorem bwDesign_of_check_failed {holds : Bool} {error : ErrCause × Num64}
    (h : (bwChecks c.lutBits srate fpass fstop hpass hstop).find? (fun k => !k.1) = some (holds, error)) :
    bwDesign c srate fpass fstop hpass hstop = .error error := by
  rw [bwDesign, bwValidate_eq_runChecks, runChecks_of_find?_eq_some _ h]

/-! ### Steps 2 to 5 -/

/-- The real-valued order of a design (44_butterworth.md R182). -/
def bwRealOrder (c : Config) (srate fpass fstop hpass hstop : Num64) : Num64 :=
  bwOrderReal (F64.lt fstop fpass) (tanw c.lutBits srate fpass) (tanw c.lutBits srate fstop) (bwEps hpass) (bwEps hstop)

/-- The coefficients of a design with the real-valued order `nr` (44_butterworth.md R183 to R185). -/
def bwResult (c : Config) (srate fpass fstop hstop nr : Num64) : BwCoefs :=
  let hp := F64.lt fstop fpass
  let n := bwOrderEven nr
  bwBiquad c.lutBits hp (bwCutoff hp (tanw c.lutBits srate fstop) (bwEps hstop) n) n 1

/-- A design whose checks passed is the order check, then the coefficients. -/
theorem bwDesign_of_checks_passed
    (h : (bwChecks c.lutBits srate fpass fstop hpass hstop).find? (fun k => !k.1) = none) :
    bwDesign c srate fpass fstop hpass hstop =
      let nr := bwRealOrder c srate fpass fstop hpass hstop
      if !F64.isFinite nr || F64.lt (F64.ofNat c.bwOrderMax) nr then .error (.bwOrder, nr)
      else .ok (bwResult c srate fpass fstop hstop nr) := by
  rw [bwDesign, bwValidate_eq_runChecks, runChecks_of_find?_eq_none _ h]
  rfl

theorem bwDesign_of_order_rejected
    (h : (bwChecks c.lutBits srate fpass fstop hpass hstop).find? (fun k => !k.1) = none)
    (hnr : F64.isFinite (bwRealOrder c srate fpass fstop hpass hstop) = false ∨
      F64.lt (F64.ofNat c.bwOrderMax) (bwRealOrder c srate fpass fstop hpass hstop) = true) :
    bwDesign c srate fpass fstop hpass hstop = .error (.bwOrder, bwRealOrder c srate fpass fstop hpass hstop) := by
  rw [bwDesign_of_checks_passed h]
  exact if_pos (by simpa using hnr)

theorem bwDesign_of_order_accepted
    (h : (bwChecks c.lutBits srate fpass fstop hpass hstop).find? (fun k => !k.1) = none)
    (hfin : F64.isFinite (bwRealOrder c srate fpass fstop hpass hstop) = true)
    (hmax : F64.lt (F64.ofNat c.bwOrderMax) (bwRealOrder c srate fpass fstop hpass hstop) = false) :
    bwDesign c srate fpass fstop hpass hstop =
      .ok (bwResult c srate fpass fstop hstop (bwRealOrder c srate fpass fstop hpass hstop)) := by
  rw [bwDesign_of_checks_passed h]
  exact if_neg (by simp [hfin, hmax])

end Design

/-- The model takes the ceiling as a natural number first; rounding up to at least 2 and to even as an integer gives the same order
(44_butterworth.md R183). -/
theorem bwOrderEven_eq_toNat (nr : Num64) :
    bwOrderEven nr =
      (let n0 := if F64.ceil nr < 2 then 2 else F64.ceil nr
       if n0 % 2 = 1 then n0 + 1 else n0).toNat := by
  unfold bwOrderEven
  generalize F64.ceil nr = k
  by_cases hsmall : k < 2
  · have hnat : k.toNat < 2 := by omega
    simp [hsmall, hnat]
  · have hnat : ¬k.toNat < 2 := by omega
    simp only [if_neg hsmall, if_neg hnat]
    split_ifs <;> omega

/-- Settles O15: the first failed check decides; when none fails, the order check does. The model's steps are those of the
statement, the order by `bwOrderEven_eq_toNat`. -/
theorem bwDesignSteps : Obligations.BwDesignSteps := by
  intro c srate fpass fstop hpass hstop one two wp ws hp ep es ratio nr n0 n g wc
  split
  next hfailed => exact bwDesign_of_check_failed hfailed
  next hpassed =>
    have hn : bwOrderEven nr = n := bwOrderEven_eq_toNat nr
    have hresult : bwResult c srate fpass fstop hstop nr = bwBiquad c.lutBits hp wc n 1 := by
      rw [bwResult, hn]
      rfl
    refine ⟨bwDesign_of_order_rejected hpassed, fun hfin hmax => ?_⟩
    rw [← hresult]
    exact bwDesign_of_order_accepted hpassed hfin hmax

/-! ### The loop over pole pairs -/

/-- The loop ends with `k = 1` whenever it runs at all: each iteration drops what came before (44_butterworth.md R185). -/
theorem bwLoop_eq_first_polePair (lutBits : Nat) (hp : Bool) (wc : Num64) {n : Nat} (hn : 2 ≤ n) :
    bwLoop lutBits hp wc n = some (bwBiquad lutBits hp wc n 1) := by
  obtain ⟨m, hm⟩ : ∃ m, n / 2 = m + 1 := Nat.exists_eq_add_of_le' (by omega)
  rw [bwLoop, hm, List.foldl_reverse, List.range_succ_eq_map, List.foldr_cons]

/-- Settles O16: the biquad by its definition, the loop by its last iteration. -/
theorem bwLoopKeepsLastPolePair : Obligations.BwLoopKeepsLastPolePair :=
  ⟨fun _ _ _ _ _ => rfl, fun lutBits hp wc _ hn => bwLoop_eq_first_polePair lutBits hp wc hn⟩

/-! ### `BW.PROC` and `BW.RST` -/

/-- Outside mode `BP` section 0 runs alone, and the gain multiplies its result (44_butterworth.md R190). -/
theorem bwProcess_of_single {u : Bw} (x : Num64) (h : u.mode ≠ bwModeBp) :
    bwProcess u x = (F64.mul u.gain (secStep u.s0 x).1, { u with s0 := (secStep u.s0 x).2 }) := if_neg h

/-- In mode `BP` section 1 runs on section 0's ungained result (44_butterworth.md R190). -/
theorem bwProcess_of_band {u : Bw} (x : Num64) (h : u.mode = bwModeBp) :
    bwProcess u x =
      (F64.mul u.gain (secStep u.s1 (secStep u.s0 x).1).1,
        { u with s0 := (secStep u.s0 x).2, s1 := (secStep u.s1 (secStep u.s0 x).1).2 }) := if_pos h

theorem exec_bwProc (iny : Bool) (s : State) : exec (.bwProc iny) s = .next (whenConfigured .bw (.bwProc iny) s
    ({ s with bw := (bwProcess s.bw (inputSample iny s)).2 }.writeY (bwProcess s.bw (inputSample iny s)).1)) := rfl

/-- Settles O14: the two modes of a configured `PROC`, then its refused form and the reset. -/
theorem bwProcessAndReset : Obligations.BwProcessAndReset := by
  refine ⟨by decide, by decide, by decide, fun s iny => ⟨fun hconf hmode => ?_, fun hconf hmode => ?_, fun hconf => ?_, rfl⟩⟩
  · rw [exec_of_configured (exec_bwProc iny s) hconf, bwProcess_of_single _ hmode]
    rfl
  · rw [exec_of_configured (exec_bwProc iny s) hconf, bwProcess_of_band _ hmode]
    rfl
  · exact exec_of_not_configured (exec_bwProc iny s) hconf

/-! ### The configure commands -/

theorem exec_bwCfg (s : State) : exec .bwCfg s =
    .next (whenValid .bwCfg s (bwDesign s.conf s.srate (arg0 s) (arg1 s) (arg2 s) (arg3 s)) fun d =>
      bwStore bwModeRaw F64.one d s) := rfl

theorem exec_bwCfgLp (s : State) : exec .bwCfgLp s =
    .next (whenValid .bwCfgLp s (bwWrapDesign s.conf s.srate (arg0 s) (bwFstopAbove (arg0 s) (arg2 s))) fun d =>
      bwStore bwModeLp (arg1 s) d s) := rfl

theorem exec_bwCfgHp (s : State) : exec .bwCfgHp s =
    .next (whenValid .bwCfgHp s (bwWrapDesign s.conf s.srate (arg0 s) (bwFstopBelow (arg0 s) (arg2 s))) fun d =>
      bwStore bwModeHp (arg1 s) d s) := rfl

theorem exec_bwCfgBp (s : State) : exec .bwCfgBp s =
    .next (whenValid .bwCfgBp s (bwBandDesign s.conf s.srate (arg0 s) (arg2 s)) fun d => bwStoreBand (arg1 s) d s) := rfl

section BandDesign

variable {c : Config} {srate cutoff sharpness : Num64} {d0 d1 : BwCoefs} {e : ErrCause × Num64}

theorem bwBandDesign_of_both_accepted (hhigh : bwWrapDesign c srate cutoff (bwFstopBelow cutoff sharpness) = .ok d0)
    (hlow : bwWrapDesign c srate cutoff (bwFstopAbove cutoff sharpness) = .ok d1) :
    bwBandDesign c srate cutoff sharpness = .ok (d0, d1) := by
  simp only [bwBandDesign, hhigh, hlow]

theorem bwBandDesign_of_high_rejected (hhigh : bwWrapDesign c srate cutoff (bwFstopBelow cutoff sharpness) = .error e) :
    bwBandDesign c srate cutoff sharpness = .error e := by
  simp only [bwBandDesign, hhigh]

theorem bwBandDesign_of_low_rejected (hhigh : bwWrapDesign c srate cutoff (bwFstopBelow cutoff sharpness) = .ok d0)
    (hlow : bwWrapDesign c srate cutoff (bwFstopAbove cutoff sharpness) = .error e) :
    bwBandDesign c srate cutoff sharpness = .error e := by
  simp only [bwBandDesign, hhigh, hlow]

end BandDesign

/-- Settles O17: an accepted and a rejected design of each command; the band-pass by the outcomes of its two designs. -/
theorem bwConfigure : Obligations.BwConfigure := by
  refine ⟨by decide, by decide, by decide, by decide, fun s => ⟨fun d hd => ?_, fun c v he => ?_, fun d hd => ?_,
    fun c v he => ?_, fun d hd => ?_, fun c v he => ?_, fun d0 d1 hhigh hlow => ?_, fun c v hhigh => ?_,
    fun d c v hhigh hlow => ?_⟩⟩
  · exact exec_of_accepted (exec_bwCfg s) hd
  · exact exec_of_rejected (exec_bwCfg s) he
  · exact exec_of_accepted (exec_bwCfgLp s) hd
  · exact exec_of_rejected (exec_bwCfgLp s) he
  · exact exec_of_accepted (exec_bwCfgHp s) hd
  · exact exec_of_rejected (exec_bwCfgHp s) he
  · exact exec_of_accepted (exec_bwCfgBp s) (bwBandDesign_of_both_accepted hhigh hlow)
  · exact exec_of_rejected (exec_bwCfgBp s) (bwBandDesign_of_high_rejected hhigh)
  · exact exec_of_rejected (exec_bwCfgBp s) (bwBandDesign_of_low_rejected hhigh hlow)

end Sys2Proof.Machine
end

section
/-! PROOF. The harmonic bank (45_harmonic.md R200 to R204): `HARM.CFG`, `HARM.PROC` and `HARM.RST`. -/

namespace Sys2Proof.Machine

/-! ### The slots' windows -/

/-- The three windows of the slots do not meet, for `HARM_MAX` is at most 4096 (20_memory.md R60, 00_scope.md R7). -/
theorem harmAmp_ne_harmPhase {j k : Nat} (hk : k < 4096) : harmAmpBase + j ≠ harmPhaseBase + k := by
  unfold harmAmpBase harmPhaseBase; omega

theorem harmInc_ne_harmPhase {j k : Nat} (hk : k < 4096) : harmIncBase + j ≠ harmPhaseBase + k := by
  unfold harmIncBase harmPhaseBase; omega

theorem harmInc_ne_harmAmp {j k : Nat} (hk : k < 4096) : harmIncBase + j ≠ harmAmpBase + k := by
  unfold harmIncBase harmAmpBase; omega

/-! ### `HARM.CFG` -/

/-- The filling of one slot more, seen from its end: the last slot is written into the filling of the others. -/
theorem harmFill_succ (l : Nat) (finc : Num64) (q : HarmParams) (n h : Nat) (m : Memory) :
    harmFill l finc q (n + 1) h m = ((harmFill l finc q n h m).write (harmIncBase + (h + n)) (harmIncValue finc q (h + n))).write
      (harmAmpBase + (h + n)) (harmAmpValue l q (h + n)) := by
  induction n generalizing h m with
  | zero => rfl
  | succ n ih => rw [harmFill, ih, Nat.add_right_comm h 1 n]; rfl

section Fill

variable {l n : Nat} {finc : Num64} {q : HarmParams} {m : Memory}

/-- The filling writes increments and amplitudes of its own slots only (R200). -/
theorem read_harmFill_other {a : Nat} (ha : ∀ k < n, a ≠ harmIncBase + k ∧ a ≠ harmAmpBase + k) :
    (harmFill l finc q n 0 m).read a = m.read a :=
  harmFill_induct (P := fun m' => m'.read a = m.read a) _ _ _ _ _ _
    (fun k hk m' v h => (Memory.read_write_other v m' (ha k (by omega)).1).trans h)
    (fun k hk m' v h => (Memory.read_write_other v m' (ha k (by omega)).2).trans h) rfl

theorem harmInc_harmFill (hm : m.wf = true) (hn : n ≤ 4096) {k : Nat} (hk : k < n) :
    (harmFill l finc q n 0 m).harmInc k = harmIncValue finc q k := by
  induction n with
  | zero => omega
  | succ n ih =>
    rw [harmFill_succ, Nat.zero_add, Memory.harmInc, Memory.read_write_other _ _ (harmInc_ne_harmAmp (by omega))]
    obtain hlt | rfl := Nat.lt_succ_iff_lt_or_eq.1 hk
    · rw [Memory.read_write_other _ _ (by omega)]
      exact ih (by omega) hlt
    · exact Memory.read_write_same _ _ (harmFill_wf _ _ _ _ _ _ hm)

theorem harmAmp_harmFill (hm : m.wf = true) (hn : n ≤ 4096) {k : Nat} (hk : k < n) :
    (harmFill l finc q n 0 m).harmAmp k = harmAmpValue l q k := by
  induction n with
  | zero => omega
  | succ n ih =>
    rw [harmFill_succ, Nat.zero_add, Memory.harmAmp]
    obtain hlt | rfl := Nat.lt_succ_iff_lt_or_eq.1 hk
    · rw [Memory.read_write_other _ _ (by omega), Memory.read_write_other _ _ (harmInc_ne_harmAmp (by omega)).symm]
      exact ih (by omega) hlt
    · exact Memory.read_write_same _ _ (Memory.write_wf _ _ (harmFill_wf _ _ _ _ _ _ hm))

end Fill

/-- The active count addresses slots of the bank only. -/
theorem harmCount_le {c : Config} (hc : c.Legal) (v : Num64) : harmCount c.harmMax v ≤ 4096 := by
  obtain ⟨hlo, hhi⟩ := hc.harmMax
  exact (harmCount_bounds ⟨hlo, by omega⟩ v).2.trans hhi

/-- Settles O18: no check precedes `harmConfigure`, whose constants stand in the statement as bit patterns (10_state.md R49); the
memory is the filling of the active slots, read back slot by slot. It stands in `Bank` because `harmConfigure` itself is the model's
function. -/
theorem Bank.harmConfigure : Obligations.HarmConfigure := by
  refine ⟨by decide, fun s hinv => ?_⟩
  have hwf : s.mem.wf = true := hinv.memory.wf
  have hcount := harmCount_le (s.conf.wellFormed_iff_legal.1 hinv.conf) s.arg[0]
  refine ⟨harmFill s.conf.lutBits (F64.div F64.one s.srate) (harmArgs s) (harmCount s.conf.harmMax s.arg[0]) 0 s.mem,
    rfl, harmFill_wf _ _ _ _ _ _ hwf, fun h hh => ⟨?_, ?_⟩, fun a ha => ?_⟩
  · exact harmInc_harmFill hwf hcount hh
  · exact harmAmp_harmFill hwf hcount hh
  · exact read_harmFill_other ha

/-! ### `HARM.PROC` -/

/-- The phase slot `k` advances to (45_harmonic.md R203). -/
def Memory.advancedPhase (m : Memory) (k : Nat) : Num64 := F64.add (m.harmPhase k) (m.harmInc k)

/-- One slot of `HARM.PROC`, on the sum so far and the memory so far (R203). -/
def harmSlot (l k : Nat) (r : Num64 × Memory) : Num64 × Memory :=
  (F64.add r.1 (F64.mul (r.2.harmAmp k) (sin2pi l (r.2.advancedPhase k))),
    r.2.write (harmPhaseBase + k) (r.2.advancedPhase k))

/-- The sum over one slot more, seen from its end. -/
theorem harmSum_succ (l n h : Nat) (m : Memory) (acc : Num64) :
    harmSum l (n + 1) h m acc = harmSlot l (h + n) (harmSum l n h m acc) := by
  induction n generalizing h m acc with
  | zero => rfl
  | succ n ih => rw [harmSum, ih, Nat.add_right_comm h 1 n]; rfl

section Sum

variable {l n : Nat} {m : Memory} {acc : Num64}

/-- The sum writes the phases of its own slots only (R203). -/
theorem read_harmSum_other {a : Nat} (ha : ∀ k < n, a ≠ harmPhaseBase + k) : (harmSum l n 0 m acc).2.read a = m.read a :=
  harmSum_induct (P := fun m' => m'.read a = m.read a) _ _ _ _ _
    (fun k hk m' v h => (Memory.read_write_other v m' (ha k (by omega))).trans h) rfl

theorem harmAmp_harmSum (hn : n ≤ 4096) (k : Nat) : (harmSum l n 0 m acc).2.harmAmp k = m.harmAmp k :=
  read_harmSum_other fun _ hj => harmAmp_ne_harmPhase (by omega)

/-- A slot the sum has not reached still advances to the same phase. -/
theorem advancedPhase_harmSum (hn : n ≤ 4096) {k : Nat} (hk : n ≤ k) :
    (harmSum l n 0 m acc).2.advancedPhase k = m.advancedPhase k :=
  congrArg₂ F64.add (read_harmSum_other fun _ hj => by omega) (read_harmSum_other fun _ hj => harmInc_ne_harmPhase (by omega))

theorem harmPhase_harmSum (hm : m.wf = true) (hn : n ≤ 4096) {k : Nat} (hk : k < n) :
    (harmSum l n 0 m acc).2.harmPhase k = m.advancedPhase k := by
  induction n with
  | zero => omega
  | succ n ih =>
    rw [harmSum_succ, Nat.zero_add, harmSlot, Memory.harmPhase]
    obtain hlt | rfl := Nat.lt_succ_iff_lt_or_eq.1 hk
    · rw [Memory.read_write_other _ _ (by omega)]
      exact ih (by omega) hlt
    · rw [Memory.read_write_same _ _ (harmSum_wf _ _ _ _ _ hm), advancedPhase_harmSum (by omega) le_rfl]

/-- The running sum is the ascending sum over the memory before the command: a slot's words are still its own when it is reached. -/
theorem harmSum_eq_bankSum (hn : n ≤ 4096) : (harmSum l n 0 m F64.posZero).1 = bankSum l m.harmAmp m.advancedPhase n := by
  induction n with
  | zero => rfl
  | succ n ih =>
    rw [harmSum_succ, Nat.zero_add, harmSlot, ih (by omega), harmAmp_harmSum (by omega), advancedPhase_harmSum (by omega) le_rfl,
      bankSum]

end Sum

theorem exec_harmProc (s : State) : exec .harmProc s = .next (whenConfigured .harm .harmProc s
    ((s.withMem (harmProcess s).2).writeY (harmProcess s).1)) := rfl

theorem harmProcess_result {s : State} (hn : s.harm.count.toNat ≤ 4096) : (harmProcess s).1 =
    F64.mul (F64.div (bankSum s.conf.lutBits s.mem.harmAmp s.mem.advancedPhase s.harm.count.toNat) (F64.ofNat s.harm.count.toNat))
      s.harm.master := by
  rw [harmProcess, harmSum_eq_bankSum hn]

/-! ### `HARM.RST` -/

section Clear

variable {n : Nat} {m : Memory}

theorem harmPhase_harmClear (hm : m.wf = true) {k : Nat} (hk : k < n) : (harmClear n 0 m).harmPhase k = F64.posZero := by
  rw [Memory.harmPhase, read_harmClear _ _ _ hm]
  exact if_pos (by omega)

/-- The reset writes phases only (45_harmonic.md R204). -/
theorem read_harmClear_other {a : Nat} (ha : ∀ k < n, a ≠ harmPhaseBase + k) : (harmClear n 0 m).read a = m.read a :=
  harmClear_induct (P := fun m' => m'.read a = m.read a) _ _ _
    (fun k hk m' v h => (Memory.read_write_other v m' (ha k (by omega))).trans h) rfl

end Clear

/-- Settles O19: the configured `PROC` by the sum and the phases it leaves, its refused form by the template, and the reset by the
phases it zeroes. -/
theorem harmProcessAndReset : Obligations.HarmProcessAndReset := by
  refine ⟨by decide, by decide, fun s hinv => ?_⟩
  have hwf : s.mem.wf = true := hinv.memory.wf
  have hcount : s.harm.count.toNat ≤ 4096 := hinv.bank.2.trans (s.conf.wellFormed_iff_legal.1 hinv.conf).harmMax.2
  refine ⟨fun hconf => ⟨(harmProcess s).2, ?_, harmProcess_wf s hwf, fun h hh => ?_, fun a ha => ?_⟩, fun hconf => ?_,
    harmClear s.conf.harmMax 0 s.mem, rfl, harmClear_wf _ _ _ hwf, fun h hh => ?_, fun a ha => ?_⟩
  · rw [exec_of_configured (exec_harmProc s) hconf, harmProcess_result hcount]
    rfl
  · exact harmPhase_harmSum hwf hcount hh
  · exact read_harmSum_other ha
  · exact exec_of_not_configured (exec_harmProc s) hconf
  · exact harmPhase_harmClear hwf hh
  · exact read_harmClear_other ha

end Sys2Proof.Machine
end

section
/-! PROOF. The delay line (46_delay.md R215 to R221): `DELAY.CFG`, `DELAY.RST`, `DELAY.PROC` without a side-chain, `DELAY.PROCNT`, and the
exact echo of a line without feedback. -/

namespace Sys2Proof.F64

/-! ### The sum with a zero -/

/-- A pattern is its sign and its exact value. -/
theorem eq_of_value_eq {y z : Num64} (hvalue : value y = value z) (hneg : neg y = neg z) : y = z := by
  have hscaled : (scaled y : ℝ) = scaled z := value_inj_scaled.1 hvalue
  have hmag : mag y = mag z := by
    rw [scaled_eq_signed, scaled_eq_signed, hneg, signed_inj] at hscaled
    exact magScale_strictMono.injective (by exact_mod_cast hscaled)
  rw [← mk_neg_mag y, hneg, hmag, mk_neg_mag]

theorem neg_eq_false_of_zero {x : Num64} (hzero : isZero x = true) (hx : x ≠ 0x8000000000000000#64) : neg x = false := by
  have hmag : mag x = 0 := of_decide_eq_true hzero
  refine eq_false_of_ne_true fun hneg => hx ?_
  rw [← mk_neg_mag x, hneg, hmag]
  decide

/-- Adding a zero of either sign changes no finite number but `-0`. -/
theorem add_zero_of_finite {x z : Num64} (hx : isFinite x = true) (hne : x ≠ 0x8000000000000000#64) (hz : isZero z = true) :
    add x z = x := by
  have hzfin := isFinite_of_isZero hz
  have hzval : value z = 0 := (value_eq_zero_iff z).2 hz
  have hsum : IsRounding (value x) (add x z) := by simpa [hzval] using isRounding_add hx hzfin
  refine eq_of_value_eq (hsum.exact hx rfl).2 ?_
  by_cases hx0 : isZero x = true
  · have hxval : value x = 0 := (value_eq_zero_iff x).2 hx0
    rw [neg_add_of_sum_zero hx hzfin (by rw [hxval, hzval, add_zero]), neg_eq_false_of_zero hx0 hne, Bool.false_and]
  · have hxval : (value x : ℝ) ≠ 0 := by exact_mod_cast mt (value_eq_zero_iff x).1 hx0
    rw [hsum.roundsTo.sign hxval, (isRounding_value hx).roundsTo.sign hxval]

end Sys2Proof.F64

namespace Sys2Proof.Machine

/-! ### `DELAY.CFG` and `DELAY.RST` -/

section Check

variable {delayMax : Nat} {len fb : Num64}

theorem delayCheck_of_short (hlong : F64.le F64.one len = false) : delayCheck delayMax len fb = .error (.dlLenNonPos, len) := by
  simp [delayCheck, hlong]

theorem delayCheck_of_tooLong (hlong : F64.le F64.one len = true) (htoo : F64.le (F64.ofNat (delayMax + 1)) len = true) :
    delayCheck delayMax len fb = .error (.dlLenMax, len) := by
  simp [delayCheck, hlong, htoo]

theorem delayCheck_of_gain_invalid (hlong : F64.le F64.one len = true) (htoo : F64.le (F64.ofNat (delayMax + 1)) len = false)
    (hgain : (F64.le F64.posZero fb && F64.lt fb F64.one) = false) : delayCheck delayMax len fb = .error (.dlFb, fb) := by
  simp [delayCheck, hlong, htoo, hgain]

theorem delayCheck_of_valid (hlong : F64.le F64.one len = true) (htoo : F64.le (F64.ofNat (delayMax + 1)) len = false)
    (hgain : (F64.le F64.posZero fb && F64.lt fb F64.one) = true) :
    delayCheck delayMax len fb = .ok (F64.floor len).toNat := by
  simp [delayCheck, hlong, htoo, hgain]

end Check

theorem exec_delayCfg (s : State) : exec .delayCfg s =
    .next (whenValid .delayCfg s (delayCheck s.conf.delayMax (arg0 s) (arg1 s)) fun n =>
      ({ s with delay := delayConfigure n (arg1 s) s.delay }).markConfigured .delay) := rfl

/-- Settles O20: the four outcomes of the checks, then the reset. -/
theorem delayConfigureAndReset : Obligations.DelayConfigureAndReset := by
  refine ⟨by decide, by decide, fun s => ⟨fun hlong => ?_, fun hlong htoo => ?_, fun hlong htoo hgain => ?_,
    fun hlong htoo hgain => ?_, rfl⟩⟩
  · exact exec_of_rejected (exec_delayCfg s) (delayCheck_of_short hlong)
  · exact exec_of_rejected (exec_delayCfg s) (delayCheck_of_tooLong hlong htoo)
  · exact exec_of_rejected (exec_delayCfg s) (delayCheck_of_gain_invalid hlong htoo hgain)
  · exact exec_of_accepted (exec_delayCfg s) (delayCheck_of_valid hlong htoo hgain)

/-! ### `DELAY.PROC` and `DELAY.PROCNT` -/

/-- A filling line returns `+0` and keeps every sample (R218). -/
theorem delayProcess_of_filling {s : State} (x : Num64) (hfill : s.delay.fifo.length ≠ s.delay.n.toNat) :
    delayProcess x s = { s with
      delay := { s.delay with fifo := s.delay.fifo ++ [F64.add x (F64.mul s.delay.fb F64.posZero)] }
      y := F64.posZero } := by
  rw [delayProcess, delayTotal, delayTake_of_filling hfill]
  rfl

/-- A full line returns its oldest sample and drops it (R218). -/
theorem delayProcess_of_full {s : State} (x : Num64) {d : Num64} {rest : List Num64} (hfifo : s.delay.fifo = d :: rest)
    (hfull : s.delay.fifo.length = s.delay.n.toNat) :
    delayProcess x s = { s with
      delay := { s.delay with fifo := rest ++ [F64.add x (F64.mul s.delay.fb d)] }
      y := d } := by
  rw [delayProcess, delayTotal, delayTake_of_full hfifo hfull]
  rfl

/-- Settles O21: the configured `PROC` of a filling and of a full line, the legacy recurrence, and both refused forms. It stands in `Line`
because `delayProcess` itself is the model's function. -/
theorem Line.delayProcess : Obligations.DelayProcess := by
  refine ⟨by decide, by decide, by decide, by decide, fun s iny => ⟨fun hconf hfill => ?_, fun d rest hconf hfifo hfull => ?_,
    fun hconf => ?_, fun hconf => ⟨?_, ?_⟩⟩⟩
  · rw [exec_delayProc_of_configured iny hconf, delayProcess_of_filling _ hfill]
    rfl
  · rw [exec_delayProc_of_configured iny hconf, delayProcess_of_full _ hfifo hfull]
    rfl
  · exact exec_delayProcNt_of_configured iny hconf
  · exact congrArg Host.Outcome.next (whenConfigured_of_not _ _ hconf)
  · exact congrArg Host.Outcome.next (whenConfigured_of_not _ _ hconf)

/-! ### The line without feedback -/

/-- A sample that the line returns as it was given: `x + 0 * d` is `x` for it (R218). -/
def Echoed (x : Num64) : Prop := F64.isFinite x = true ∧ x ≠ 0x8000000000000000#64

/-- A line without feedback, its history within its length and finite. -/
structure Delay.NoFeedback (d : Delay) : Prop where
  fb : d.fb = F64.posZero
  pos : 1 ≤ d.n.toNat
  len : d.fifo.length ≤ d.n.toNat
  finite : ∀ v ∈ d.fifo, F64.isFinite v = true

/-- What the next `DELAY_N` calls return: a `+0` for each cell still to fill, then the history. -/
def Delay.pending (d : Delay) : List Num64 := List.replicate (d.n.toNat - d.fifo.length) F64.posZero ++ d.fifo

/-- The line after one call that pushes `v` (R218). -/
def Delay.pushed (d : Delay) (v : Num64) : Delay := { d with fifo := fifoPush (delayTake d).2 v }

/-- The two cases of a call: an oldest sample to return, or a cell to fill. -/
theorem Delay.NoFeedback.take_cases {d : Delay} (h : d.NoFeedback) :
    (∃ v rest, d.fifo = v :: rest ∧ rest.length + 1 = d.n.toNat ∧ delayTake d = (v, rest)) ∨
      (d.fifo.length < d.n.toNat ∧ delayTake d = (F64.posZero, d.fifo)) := by
  by_cases hfull : d.fifo.length = d.n.toNat
  · obtain ⟨v, rest, hfifo⟩ := List.exists_cons_of_length_pos (hfull ▸ h.pos)
    exact .inl ⟨v, rest, hfifo, by rw [← hfull, hfifo, List.length_cons], delayTake_of_full hfifo hfull⟩
  · exact .inr ⟨lt_of_le_of_ne h.len hfull, delayTake_of_filling hfull⟩

/-- Without feedback the total is the input: a finite delayed sample times `+0` is a zero. -/
theorem Delay.NoFeedback.total {d : Delay} (h : d.NoFeedback) {x : Num64} (hx : Echoed x) : delayTotal d x = x := by
  have hfin : F64.isFinite (delayTake d).1 = true := by
    obtain ⟨v, rest, hfifo, -, htake⟩ | ⟨-, htake⟩ := h.take_cases
    · rw [htake]
      exact h.finite v (hfifo ▸ List.mem_cons_self)
    · rw [htake]
      exact F64.isFinite_posZero
  obtain ⟨hxfin, hxne⟩ := hx
  rw [delayTotal, h.fb]
  exact F64.add_zero_of_finite hxfin hxne (silent_posZero.mul_coef hfin)

theorem Delay.NoFeedback.push {d : Delay} (h : d.NoFeedback) {v : Num64} (hv : F64.isFinite v = true) :
    (d.pushed v).NoFeedback := by
  obtain ⟨w, rest, hfifo, hlen, htake⟩ | ⟨hlen, htake⟩ := h.take_cases
  · have hrest : ∀ u ∈ rest, F64.isFinite u = true := fun u hu => h.finite u (hfifo ▸ List.mem_cons_of_mem w hu)
    refine ⟨h.fb, h.pos, ?_, ?_⟩
    · simpa [pushed, fifoPush, htake] using hlen.le
    · simpa [pushed, fifoPush, htake, or_imp, forall_and] using ⟨hrest, hv⟩
  · refine ⟨h.fb, h.pos, ?_, ?_⟩
    · simpa [pushed, fifoPush, htake] using hlen
    · simpa [pushed, fifoPush, htake, or_imp, forall_and] using ⟨h.finite, hv⟩

/-- One call moves the queue on by one place: its head is returned, the pushed sample is its new end. -/
theorem Delay.NoFeedback.take_cons_pending {d : Delay} (h : d.NoFeedback) (v : Num64) :
    (delayTake d).1 :: (d.pushed v).pending = d.pending ++ [v] := by
  obtain ⟨w, rest, hfifo, hlen, htake⟩ | ⟨hlen, htake⟩ := h.take_cases
  · simp [pending, pushed, fifoPush, htake, hfifo, hlen]
  · have hcells : d.n.toNat - d.fifo.length = d.n.toNat - (d.fifo.length + 1) + 1 := by omega
    simp [pending, pushed, fifoPush, htake, hcells, List.replicate_succ]

/-- One input of the sequence: the delayed sample, then the outputs of the line after the push. -/
theorem feedDelay_cons {s : State} (hconf : s.configured .delay = true) (x : Num64) (xs : List Num64) :
    feedDelay (x :: xs) s =
      (feedDelay xs (delayProcess x { s with x := x })).map ((delayTake s.delay).1 :: ·) := by
  have hconf' : ({ s with x := x } : State).configured .delay = true := hconf
  rw [feedDelay, exec_delayProc_of_configured false hconf']
  rfl

/-- The outputs are what the line holds, then the inputs. -/
theorem feedDelay_eq_pending_append (xs : List Num64) (s : State) (hconf : s.configured .delay = true) (hline : s.delay.NoFeedback)
    (hxs : ∀ x ∈ xs, Echoed x) : feedDelay xs s = some ((s.delay.pending ++ xs).take xs.length) := by
  induction xs generalizing s with
  | nil => rfl
  | cons x xs ih =>
    obtain ⟨hx, hxs⟩ := List.forall_mem_cons.1 hxs
    have hdelay : (delayProcess x { s with x := x }).delay = s.delay.pushed x :=
      congrArg s.delay.pushed (hline.total hx)
    rw [feedDelay_cons hconf, ih, hdelay, Option.map_some, List.length_cons, ← List.take_succ_cons, ← List.cons_append,
      hline.take_cons_pending, List.append_assoc, List.singleton_append]
    · exact hconf
    · rw [hdelay]
      exact hline.push hx.1
    · exact hxs

/-- Settles O45: what an empty line of `N` samples holds is `N` zeros. -/
theorem delayIsExact : Obligations.DelayIsExact := by
  intro s xs hconf hpos hfb hfifo hxs
  have hline : s.delay.NoFeedback :=
    ⟨hfb, hpos, by rw [hfifo]; exact Nat.zero_le _, by rw [hfifo]; exact fun v hv => absurd hv List.not_mem_nil⟩
  have hpending : s.delay.pending = List.replicate s.delay.n.toNat F64.posZero := by
    rw [Delay.pending, hfifo, List.length_nil, Nat.sub_zero, List.append_nil]
  rw [feedDelay_eq_pending_append xs s hconf hline hxs, hpending]

end Sys2Proof.Machine
end

section
/-! PROOF. The pulse width is read by nothing (47_block.md R238): what touches neither the parameters nor the read data works alike on two
states that differ there, and the few operations that do touch them keep the difference where it was. -/

namespace Sys2Proof.Machine

/-! ### A state seen with other parameters -/

/-- The state with the parameters, their snapshot, the host's moves and the read data replaced. -/
def State.withView (s : State) (p ps : Vector Num64 9) (moves : List HostMove) (r : Word64) : State :=
  { s with p := p, ps := ps, port := moves, rdata := r }

section View

variable (p ps : Vector Num64 9) (moves : List HostMove) (r : Word64)

theorem whenConfigured_withView {u : DspUnit} {i : Instr} {s run run' : State} (hrun : run' = run.withView p ps moves r) :
    whenConfigured u i (s.withView p ps moves r) run' = (whenConfigured u i s run).withView p ps moves r := by
  have hsame : (s.withView p ps moves r).configured u = s.configured u := rfl
  obtain ⟨hc, hw⟩ | ⟨hc, hw⟩ := whenConfigured_cases u i s run
  · rw [hw, whenConfigured_of_configured i _ (hsame.trans hc), hrun]
  · rw [hw, whenConfigured_of_not i _ (hsame.trans hc)]
    rfl

theorem whenValid_withView {α : Type} {i : Instr} {s : State} {checked : Except (ErrCause × Num64) α} {write write' : α → State}
    (hwrite : ∀ a, write' a = (write a).withView p ps moves r) :
    whenValid i (s.withView p ps moves r) checked write' = (whenValid i s checked write).withView p ps moves r := by
  cases checked with
  | ok a => exact hwrite a
  | error e => rfl

theorem delayScCommand_withView (sc : SideChain) (sat iny : Bool) (i : Instr) (s : State) :
    delayScCommand sc sat iny i (s.withView p ps moves r) = (delayScCommand sc sat iny i s).withView p ps moves r := by
  have hrun : delayProcessSc sc sat (inputSample iny s) (s.withView p ps moves r) =
      (delayProcessSc sc sat (inputSample iny s) s).withView p ps moves r := by cases sc <;> rfl
  exact whenConfigured_withView p ps moves r (whenConfigured_withView p ps moves r hrun)

/-- No command but `BLK.RUN` reads or writes a parameter, its snapshot, the host's moves or the read data. -/
theorem exec_withView {i : Instr} (hi : i ≠ .blkRun) (s : State) :
    ∃ t, exec i s = .next t ∧ exec i (s.withView p ps moves r) = .next (t.withView p ps moves r) := by
  cases i with
  | sineProc | lp1Proc | rclpProc | rcbpProc | moogProc | bwProc | harmProc | delayProc | delayProcNt =>
    exact ⟨_, rfl, congrArg Host.Outcome.next (whenConfigured_withView p ps moves r rfl)⟩
  | lp1Cfg | bwCfg | bwCfgLp | bwCfgHp | bwCfgBp | delayCfg =>
    exact ⟨_, rfl, congrArg Host.Outcome.next (whenValid_withView p ps moves r fun _ => rfl)⟩
  | delayProcScLp1 | delayProcScDcr | delayProcScIir3 | delayProcScRclp | delayProcScRcbp | delayProcScMoog | delayProcScBw =>
    exact ⟨_, rfl, congrArg Host.Outcome.next (delayScCommand_withView p ps moves r _ _ _ _ _)⟩
  | blkRun => exact absurd rfl hi
  | _ => exact ⟨_, rfl, rfl⟩

/-- Neither does the core. -/
theorem coreStep_withView (s : State) : coreStep (s.withView p ps moves r) = (coreStep s).withView p ps moves r := by
  unfold coreStep sampleStep
  by_cases hlast : s.blk.idx + 1 = s.blk.n
  · simp only [State.withView, hlast, if_true]
    rfl
  · simp only [State.withView, hlast, if_false]
    rfl

end View

/-! ### The steps that touch the parameters -/

/-- From two states that differ at most in the pulse width, `f` gives next states that do. -/
def PulseBlind (f : State → Host.Outcome State Fault Refusal) : Prop :=
  ∀ ⦃s t : State⦄, SameButPulse s t → ∃ s' t', f s = .next s' ∧ f t = .next t' ∧ SameButPulse s' t'

/-- The parameters `p`, `ps` are those of `s` but for the pulse width. -/
def PulseOnly (s : State) (p ps : Vector Num64 9) : Prop := ∀ i : Fin 9, i ≠ 1 → p[i] = s.p[i] ∧ ps[i] = s.ps[i]

theorem sameButPulse_iff {s t : State} :
    SameButPulse s t ↔ ∃ p ps r, PulseOnly s p ps ∧ t = s.withView p ps s.port r :=
  ⟨fun ⟨p, ps, r, ht, h⟩ => ⟨p, ps, r, h, ht⟩, fun ⟨p, ps, r, h, ht⟩ => ⟨p, ps, r, ht, h⟩⟩

theorem PulseOnly.sameButPulse {s : State} {p ps : Vector Num64 9} (h : PulseOnly s p ps) (r : Word64) :
    SameButPulse s (s.withView p ps s.port r) := ⟨p, ps, r, rfl, h⟩

/-- What neither reads nor writes the parameters and the read data is blind to the pulse width. -/
theorem pulseBlind_of_withView {f : State → Host.Outcome State Fault Refusal}
    (h : ∀ s p ps r, ∃ t, f s = .next t ∧ (t.p = s.p ∧ t.ps = s.ps) ∧
      f (s.withView p ps s.port r) = .next (t.withView p ps t.port r)) : PulseBlind f := by
  intro s t hst
  obtain ⟨p, ps, r, honly, rfl⟩ := sameButPulse_iff.1 hst
  obtain ⟨u, hs, ⟨hp, hps⟩, ht⟩ := h s p ps r
  have hu : PulseOnly u p ps := by rw [PulseOnly, hp, hps]; exact honly
  exact ⟨u, _, hs, ht, hu.sameButPulse r⟩

/-- `BLK.RUN` takes a new snapshot; of it the bank's and the ladder's operands are read, and the pulse width is none of them
(47_block.md R233, R238). -/
theorem pulseBlind_blkRun : PulseBlind (exec .blkRun) := by
  intro s t hst
  obtain ⟨p, ps, r, honly, rfl⟩ := sameButPulse_iff.1 hst
  have hsnap (i : Fin 9) (hi : i ≠ 1) : (snapshot s.conf p)[i] = (snapshot s.conf s.p)[i] := by
    rw [snapshot_getElem, snapshot_getElem, (honly i hi).1]
  have hharm : blkHarmParams s.basehz (snapshot s.conf p) = blkHarmParams s.basehz (snapshot s.conf s.p) := by
    simp only [blkHarmParams, HarmParams.mk.injEq]
    exact ⟨hsnap 6 (by decide), congrArg _ (hsnap 3 (by decide)), hsnap 5 (by decide), congrArg _ (hsnap 7 (by decide)),
      hsnap 8 (by decide), hsnap 0 (by decide)⟩
  have hfreq : (snapshot s.conf p)[4] = (snapshot s.conf s.p)[4] := hsnap 4 (by decide)
  have hres : (snapshot s.conf p)[2] = (snapshot s.conf s.p)[2] := hsnap 2 (by decide)
  refine ⟨blkSetup s, (blkSetup s).withView p (snapshot s.conf p) s.port r, rfl, ?_, ?_⟩
  · simp only [exec, execBlkRun, blkSetup, State.withView, hharm, hfreq, hres]
    rfl
  · exact PulseOnly.sameButPulse (s := blkSetup s) (fun i hi => ⟨(honly i hi).1, hsnap i hi⟩) r

theorem pulseBlind_exec (i : Instr) : PulseBlind (exec i) := by
  by_cases hi : i = .blkRun
  · rw [hi]; exact pulseBlind_blkRun
  refine pulseBlind_of_withView fun s p ps r => ?_
  obtain ⟨t, hexec, hview⟩ := exec_withView p ps s.port r hi s
  have heffect := effect_of_exec hexec
  have hhost := heffect.keepsHost
  refine ⟨t, hexec, ⟨hhost.p, (heffect.keepsUnits.blk (blk_not_mem_writtenUnits hi)).1⟩, ?_⟩
  rw [hview, hhost.port]

theorem pulseBlind_recordError (c : ErrCause) (info : Word32) (v : Num64) :
    PulseBlind fun s => .next (recordError c info v s) :=
  pulseBlind_of_withView fun _ _ _ _ => ⟨_, rfl, ⟨rfl, rfl⟩, rfl⟩

theorem pulseBlind_runCommand (w : Word32) : PulseBlind (runCommand w) := by
  cases hdecode : decode w with
  | ok i =>
    have hrun : runCommand w = exec i := funext fun s => by rw [runCommand, hdecode]
    rw [hrun]
    exact pulseBlind_exec i
  | error e =>
    have hrun : runCommand w = fun s => .next (recordError .illegalCmd w F64.posZero s) :=
      funext fun s => by rw [runCommand, hdecode]
    rw [hrun]
    exact pulseBlind_recordError _ _ _

/-- A write to a register that is no parameter. -/
theorem writeLoc_withView {l : Loc} (hl : ∀ j, l ≠ .p j) (a : Addr) (v : Word64) (s : State) (p ps : Vector Num64 9)
    (moves : List HostMove) (r : Word64) : writeLoc a v (s.withView p ps moves r) l = (writeLoc a v s l).withView p ps moves r := by
  have hconf : (s.withView p ps moves r).conf = s.conf := rfl
  cases l
  case p j => exact absurd rfl (hl j)
  case srate | basehz | blklen =>
    simp only [writeLoc, hconf]
    split <;> rfl
  all_goals rfl

theorem writeLoc_keepsView {l : Loc} (hl : ∀ j, l ≠ .p j) (a : Addr) (v : Word64) (s : State) :
    (writeLoc a v s l).p = s.p ∧ (writeLoc a v s l).ps = s.ps ∧ (writeLoc a v s l).port = s.port := by
  cases l
  case p j => exact absurd rfl (hl j)
  case srate | basehz | blklen =>
    simp only [writeLoc]
    split <;> exact ⟨rfl, rfl, rfl⟩
  all_goals exact ⟨rfl, rfl, rfl⟩

theorem PulseOnly.set {s : State} {p ps : Vector Num64 9} (h : PulseOnly s p ps) (j : Fin 9) (v : Word64) :
    PulseOnly { s with p := s.p.set j v } (p.set j v) ps := by
  intro i hi
  obtain ⟨hp, hps⟩ := h i hi
  rw [Fin.getElem_fin, Fin.getElem_fin] at hp
  exact ⟨by rw [Fin.getElem_fin, Fin.getElem_fin, Vector.getElem_set, Vector.getElem_set, hp], hps⟩

/-- A write to a parameter is the same write in both states; every other register is none of what they differ in. -/
theorem pulseBlind_writeLoc (a : Addr) (v : Word64) (l : Loc) : PulseBlind fun s => .next (writeLoc a v s l) := by
  by_cases hl : ∀ j, l ≠ .p j
  · refine pulseBlind_of_withView fun s p ps r => ?_
    obtain ⟨hp, hps, hport⟩ := writeLoc_keepsView hl a v s
    exact ⟨_, rfl, ⟨hp, hps⟩, congrArg Host.Outcome.next (by rw [writeLoc_withView hl, hport])⟩
  · push Not at hl
    obtain ⟨j, rfl⟩ := hl
    intro s t hst
    obtain ⟨p, ps, r, honly, rfl⟩ := sameButPulse_iff.1 hst
    exact ⟨_, _, rfl, rfl, (honly.set j v).sameButPulse r⟩

theorem SameButPulse.conf_eq {s t : State} (h : SameButPulse s t) : t.conf = s.conf := by
  obtain ⟨p, ps, r, rfl, -⟩ := h
  rfl

/-! ### The host's moves -/

theorem pulseBlind_busWrite (a : Addr) (v : Word64) : PulseBlind (busWrite a v) := by
  intro s t hst
  cases hloc : locOf s.conf a with
  | none =>
    simp only [busWrite, hst.conf_eq, hloc]
    exact pulseBlind_recordError _ _ _ hst
  | some l =>
    cases hl : l.access <;> simp only [busWrite, hst.conf_eq, hloc, hl]
    · exact pulseBlind_writeLoc a v l hst
    · exact pulseBlind_recordError _ _ _ hst
    · exact pulseBlind_runCommand _ hst
    · exact pulseBlind_of_withView (f := fun s => .next (acknowledge (v.setWidth 32) s))
        (fun _ _ _ _ => ⟨_, rfl, ⟨rfl, rfl⟩, rfl⟩) hst

/-- What the last read returned may differ (20_memory.md R72). -/
theorem SameButPulse.withRdata {s t : State} (h : SameButPulse s t) (v w : Word64) :
    SameButPulse (s.withRdata v) (t.withRdata w) := by
  obtain ⟨p, ps, r, honly, rfl⟩ := sameButPulse_iff.1 h
  exact PulseOnly.sameButPulse (s := s.withRdata v) honly w

theorem SameButPulse.withPort {s t : State} (h : SameButPulse s t) (moves : List HostMove) :
    SameButPulse (s.withPort moves) (t.withPort moves) := by
  obtain ⟨p, ps, r, honly, rfl⟩ := sameButPulse_iff.1 h
  exact PulseOnly.sameButPulse (s := s.withPort moves) honly r

theorem pulseBlind_busRead (a : Addr) : PulseBlind fun s => .next (busRead a s) := by
  intro s t hst
  refine ⟨_, _, rfl, rfl, ?_⟩
  cases hloc : locOf s.conf a with
  | none =>
    obtain ⟨s', t', hs, ht, h⟩ := pulseBlind_recordError .busUnmapped (a.setWidth 32) F64.posZero hst
    cases hs
    cases ht
    simp only [busRead, hst.conf_eq, hloc]
    exact h.withRdata 0 0
  | some l =>
    simp only [busRead, hst.conf_eq, hloc]
    exact hst.withRdata _ _

theorem coreStep_keepsView (s : State) : (coreStep s).p = s.p ∧ (coreStep s).ps = s.ps := by
  unfold coreStep sampleStep
  simp only
  split <;> exact ⟨rfl, rfl⟩

theorem pulseBlind_coreStep : PulseBlind fun s => .next (coreStep s) :=
  pulseBlind_of_withView fun s p ps r =>
    ⟨_, rfl, coreStep_keepsView s, congrArg Host.Outcome.next (by rw [coreStep_withView, coreStep_port])⟩

/-- Reset leaves nothing of the state but its configuration record. -/
theorem pulseBlind_hardReset (moves : List HostMove) : PulseBlind fun s => .next (hardReset moves s) := by
  intro s t hst
  refine ⟨_, _, rfl, rfl, ?_⟩
  have hsame : hardReset moves t = hardReset moves s := by rw [hardReset, hardReset, hst.conf_eq]
  rw [hsame]
  exact ⟨_, _, _, rfl, fun _ _ => ⟨rfl, rfl⟩⟩

theorem SameButPulse.port_eq {s t : State} (h : SameButPulse s t) : t.port = s.port := by
  obtain ⟨p, ps, r, rfl, -⟩ := h
  rfl

theorem SameButPulse.busy_eq {s t : State} (h : SameButPulse s t) : t.busy = s.busy := by
  obtain ⟨p, ps, r, rfl, -⟩ := h
  rfl

theorem pulseBlind_idleMove (m : HostMove) : PulseBlind (idleMove m) := by
  intro s t hst
  cases m with
  | write a v => exact pulseBlind_busWrite a v hst
  | read a => exact pulseBlind_busRead a hst
  | idle | waitBlk => exact ⟨s, t, rfl, rfl, hst⟩
  | reset =>
    simp only [idleMove, hst.port_eq]
    exact pulseBlind_hardReset s.port hst

theorem pulseBlind_busyMove (m : HostMove) (rest : List HostMove) : PulseBlind (busyMove m rest) := by
  intro s t hst
  cases m with
  | write a v =>
    simp only [busyMove]
    split
    · exact pulseBlind_busWrite a v (hst.withPort rest)
    · exact pulseBlind_coreStep hst
  | read a =>
    simp only [busyMove]
    split
    · exact pulseBlind_busRead a (hst.withPort rest)
    · exact pulseBlind_coreStep hst
  | idle => exact pulseBlind_coreStep (hst.withPort rest)
  | waitBlk => exact pulseBlind_coreStep hst
  | reset => exact pulseBlind_hardReset rest hst

theorem pulseBlind_step : PulseBlind step := by
  intro s t hst
  cases hport : s.port with
  | nil =>
    simp only [step, machineStep, hst.port_eq, hst.busy_eq, hport]
    split
    · exact pulseBlind_coreStep hst
    · exact ⟨s, t, rfl, rfl, hst⟩
  | cons m rest =>
    simp only [step, machineStep, hst.port_eq, hst.busy_eq, hport]
    split
    · exact pulseBlind_busyMove m rest hst
    · exact pulseBlind_idleMove m (hst.withPort rest)

/-- Settles O50: each kind of step is blind to the pulse width. -/
theorem pulseWidthUnread : Obligations.PulseWidthUnread := by
  intro s t s' hst hstep
  obtain ⟨u, t', hs, ht, h⟩ := pulseBlind_step hst
  obtain rfl : u = s' := Host.Outcome.next.inj (hs.symm.trans hstep)
  exact ⟨t', ht, h⟩

end Sys2Proof.Machine
end

section
/-! PROOF. What one step of the machine can do, said once, and from it the errors (60_exceptions.md R251 to R257) and the canonical form of
the memory. -/

namespace Sys2Proof.Machine

/-! ### The effect of a step -/

/-- `Written s t`: a completed bus write on `s` may end in `t` (20_memory.md R62). -/
inductive Written (s : State) : State → Prop
  | refused (c : ErrCause) (info : Word32) (v : Num64) : Written s (recordError c info v s)
  | command {i : Instr} {t : State} (h : Effect s i t) : Written s t
  | acknowledged (v : Word32) : Written s (acknowledge v s)
  | stored (a : Addr) (v : Word64) (l : Loc) : Written s (writeLoc a v s l)

theorem busWrite_written (a : Addr) (v : Word64) (s : State) : ∃ t, busWrite a v s = .next t ∧ Written s t := by
  obtain ⟨-, hw⟩ | ⟨l, -, ⟨-, hw⟩ | ⟨-, hw⟩ | ⟨-, hw⟩ | ⟨-, hw⟩⟩ := busWrite_cases a v s
  · exact ⟨_, hw, .refused _ _ _⟩
  · exact ⟨_, hw, .refused _ _ _⟩
  · obtain ⟨i, -, hrun⟩ | ⟨-, hrun⟩ := runCommand_cases (v.setWidth 32) s
    · obtain ⟨t, hexec, heffect⟩ := exec_effect i s
      exact ⟨t, hw.trans (hrun.trans hexec), .command heffect⟩
    · exact ⟨_, hw.trans hrun, .refused _ _ _⟩
  · exact ⟨_, hw, .acknowledged _⟩
  · exact ⟨_, hw, .stored a v l⟩

/-- `StepEffect s t`: one step of the machine may lead from `s` to `t`, `rest` being the moves it leaves to the host. -/
inductive StepEffect (s : State) : State → Prop
  | passed (rest : List HostMove) : StepEffect s (s.withPort rest)
  | sample (rest : List HostMove) : StepEffect s (coreStep (s.withPort rest))
  | written (rest : List HostMove) {t : State} (h : Written (s.withPort rest) t) : StepEffect s t
  | read (rest : List HostMove) (a : Addr) : StepEffect s (busRead a (s.withPort rest))
  | reset (rest : List HostMove) : StepEffect s (hardReset rest s)

theorem idleMove_effect (m : HostMove) (rest : List HostMove) (s : State) :
    ∃ t, idleMove m (s.withPort rest) = .next t ∧ StepEffect s t := by
  cases m with
  | write a v =>
    obtain ⟨t, hw, h⟩ := busWrite_written a v (s.withPort rest)
    exact ⟨t, hw, .written rest h⟩
  | read a => exact ⟨_, rfl, .read rest a⟩
  | idle | waitBlk => exact ⟨_, rfl, .passed rest⟩
  | reset => exact ⟨_, rfl, .reset rest⟩

theorem busyMove_effect (m : HostMove) (rest : List HostMove) (s : State) :
    ∃ t, busyMove m rest s = .next t ∧ StepEffect s t := by
  have hsample : StepEffect s (coreStep s) := .sample s.port
  cases m with
  | write a v =>
    simp only [busyMove]
    split
    · obtain ⟨t, hw, h⟩ := busWrite_written a v (s.withPort rest)
      exact ⟨t, hw, .written rest h⟩
    · exact ⟨_, rfl, hsample⟩
  | read a =>
    simp only [busyMove]
    split
    · exact ⟨_, rfl, .read rest a⟩
    · exact ⟨_, rfl, hsample⟩
  | idle => exact ⟨_, rfl, .sample rest⟩
  | waitBlk => exact ⟨_, rfl, hsample⟩
  | reset => exact ⟨_, rfl, .reset rest⟩

/-- Every step completes, with one of the effects above (60_exceptions.md R254). -/
theorem step_effect (s : State) : ∃ t, step s = .next t ∧ StepEffect s t := by
  obtain ⟨-, -, hs⟩ | ⟨-, -, hs⟩ | ⟨m, rest, -, -, hs⟩ | ⟨m, rest, -, -, hs⟩ := machineStep_cases s
  · exact ⟨_, hs, .sample s.port⟩
  · exact ⟨_, hs, .passed s.port⟩
  · obtain ⟨t, hmove, h⟩ := busyMove_effect m rest s
    exact ⟨t, hs.trans hmove, h⟩
  · obtain ⟨t, hmove, h⟩ := idleMove_effect m rest s
    exact ⟨t, hs.trans hmove, h⟩

/-! ### The error record -/

theorem recordError_eq (c : ErrCause) (info : Word32) (v : Num64) (s : State) : recordError c info v s =
    { s with errcode := c.code.setWidth 32, errinfo := info, errval := v, status := s.status ||| c.flag.bit } := rfl

/-- Settles O26: the table holds every cause with its code and its flag. -/
theorem errorRecord : Obligations.ErrorRecord := by
  unfold Obligations.ErrorRecord
  intro rows
  have hcodes : ∀ row ∈ rows, row.1.code.setWidth 32 = row.2.1 ∧ row.1.flag.bit = row.2.2 := by unfold rows; decide
  refine ⟨fun c => ?_, fun row hrow info v s => ?_⟩
  · unfold rows
    cases c <;> decide
  · obtain ⟨hcode, hflag⟩ := hcodes row hrow
    rw [recordError_eq, hcode, hflag]

/-- Settles O5: the decoder rejects the word, and the rejection is the error's record. -/
theorem illegalWordExecutesNothing : Obligations.IllegalWordExecutesNothing := by
  intro s v rest hbusy hport hillegal
  rw [step_write_cmd hbusy hport]
  obtain ⟨i, hdecode, -⟩ | ⟨-, hrun⟩ := runCommand_cases (v.setWidth 32) (s.withPort rest)
  · exact absurd (encode_of_decode hdecode) (hillegal i)
  · rw [hrun]
    rfl

/-- A `DELAY.PROC` with a side-chain is refused for either of its two units (60_exceptions.md R253). -/
theorem delayScCommand_of_not_configured {sc : SideChain} {sat iny : Bool} {i : Instr} {s : State} {u : DspUnit}
    (hu : u ∈ [DspUnit.delay, sc.unit]) (hc : s.configured u = false) :
    delayScCommand sc sat iny i s = recordError .notConfigured (encode i) F64.posZero s := by
  have hside : s.configured sc.unit = false → whenConfigured sc.unit i s (delayProcessSc sc sat (inputSample iny s) s) =
      recordError .notConfigured (encode i) F64.posZero s := whenConfigured_of_not i _
  obtain ⟨hdelay, hw⟩ | ⟨-, hw⟩ := whenConfigured_cases .delay i s
    (whenConfigured sc.unit i s (delayProcessSc sc sat (inputSample iny s) s))
  · rw [delayScCommand, hw]
    simp only [List.mem_cons, List.not_mem_nil, or_false] at hu
    obtain rfl | rfl := hu
    · exact absurd (hdelay.symm.trans hc) (by decide)
    · exact hside hc
  · exact hw

theorem exec_of_required {i : Instr} {u : DspUnit} {s : State} (hu : u ∈ requiredUnits i) (hc : s.configured u = false) :
    exec i s = .next (recordError .notConfigured (encode i) F64.posZero s) := by
  cases i with
  | sineProc | lp1Proc | rclpProc | rcbpProc | moogProc | bwProc | harmProc | delayProc | delayProcNt =>
    obtain rfl := List.mem_singleton.1 hu
    exact exec_of_not_configured rfl hc
  | delayProcScLp1 | delayProcScDcr | delayProcScIir3 | delayProcScRclp | delayProcScRcbp | delayProcScMoog | delayProcScBw =>
    exact congrArg Host.Outcome.next (delayScCommand_of_not_configured hu hc)
  | _ => exact absurd hu List.not_mem_nil

/-- Settles O25. -/
theorem notConfiguredExecutesNothing : Obligations.NotConfiguredExecutesNothing :=
  fun _ _ _ hu hc => exec_of_required hu hc

/-- The error record and the flags of `t` are those of `s`. -/
structure KeepsRecord (s t : State) : Prop where
  errcode : t.errcode = s.errcode
  errinfo : t.errinfo = s.errinfo
  errval : t.errval = s.errval
  status : t.status = s.status

theorem sideProcess_keepsRecord (sc : SideChain) (sat : Bool) (x : Num64) (s : State) :
    KeepsRecord s (sideProcess sc sat x s).2 := by
  cases sc <;> constructor <;> rfl

/-- A command other than `BLK.RUN` leaves the record and the flags, or it is rejected. -/
theorem Effect.keepsRecord {s t : State} {i : Instr} (h : Effect s i t) (hi : i ≠ .blkRun) :
    KeepsRecord s t ∨ ∃ c v, t = recordError c (encode i) v s := by
  cases h with
  | rejected i c v => exact .inr ⟨c, v, rfl⟩
  | filterProc sc sat iny => exact .inl { sideProcess_keepsRecord sc sat (inputSample iny s) s with }
  | delayProcWith sc sat iny => exact .inl { sideProcess_keepsRecord sc sat (delayTotal s.delay (inputSample iny s)) s with }
  | blkRun => exact absurd rfl hi
  | _ => exact .inl ⟨rfl, rfl, rfl, rfl⟩

/-- Settles O27: commands by their effects, steps by theirs. -/
theorem commandErrorsPrecise : Obligations.CommandErrorsPrecise := by
  refine ⟨fun i s => ?_, fun s => ?_⟩
  · by_cases hi : i = .blkRun
    · subst hi
      exact ⟨blkSetup s, rfl, .inl ⟨rfl, rfl, rfl, rfl⟩⟩
    · obtain ⟨t, hexec, heffect⟩ := exec_effect i s
      refine ⟨t, hexec, (heffect.keepsRecord hi).imp_left fun hkeeps => ?_⟩
      rw [if_neg hi]
      exact ⟨hkeeps.errcode, hkeeps.errinfo, hkeeps.errval, hkeeps.status⟩
  · obtain ⟨t, hstep, -⟩ := step_effect s
    exact ⟨t, hstep⟩

/-! ### The memory's canonical form -/

/-- Only the bank's commands write the arrays; each does it by `Memory.write`. -/
theorem Effect.mem_wf {s t : State} {i : Instr} (h : Effect s i t) (hs : s.mem.wf = true) : t.mem.wf = true := by
  cases h with
  | harmCfg | blkRun => exact harmFill_wf _ _ _ _ _ _ hs
  | harmProc => exact harmProcess_wf s hs
  | harmRst | sysRstAll => exact harmClear_wf _ _ _ hs
  | filterProc sc sat iny =>
    obtain ⟨-, -, -, -, hmem, -⟩ := sideProcess_frame sc sat (inputSample iny s) s
    exact (congrArg Memory.wf hmem).trans hs
  | delayProcWith sc sat iny =>
    obtain ⟨-, -, -, -, hmem, -⟩ := sideProcess_frame sc sat (delayTotal s.delay (inputSample iny s)) s
    exact (congrArg Memory.wf hmem).trans hs
  | _ => exact hs

/-- The host stores registers; the arrays and its own moves are none of them (20_memory.md R62). -/
theorem writeLoc_frame (a : Addr) (v : Word64) (s : State) (l : Loc) :
    (writeLoc a v s l).mem = s.mem ∧ (writeLoc a v s l).port = s.port := by
  cases l
  case srate | basehz | blklen =>
    simp only [writeLoc]
    split <;> exact ⟨rfl, rfl⟩
  all_goals exact ⟨rfl, rfl⟩

theorem busRead_frame (a : Addr) (s : State) : (busRead a s).mem = s.mem ∧ (busRead a s).port = s.port := by
  obtain ⟨-, hr⟩ | ⟨l, -, hr⟩ := busRead_cases a s <;> rw [hr] <;> exact ⟨rfl, rfl⟩

theorem Written.mem_wf {s t : State} (h : Written s t) (hs : s.mem.wf = true) : t.mem.wf = true := by
  cases h with
  | refused | acknowledged => exact hs
  | command h => exact h.mem_wf hs
  | stored a v l => rw [(writeLoc_frame a v s l).1]; exact hs

/-- The whole next state of a sample step (47_block.md R235, R236). -/
theorem coreStep_eq (s : State) : coreStep s = { s with
    moog := (moogProcess s.blk.sat s.moog (harmProcess s).1).2
    noiseIdx := s.noiseIdx + 1
    mem := (harmProcess s).2.write (obufBase + s.blk.idx) (sampleValue (nextNoise s) s)
    blk := { s.blk with idx := s.blk.idx + 1 }
    status := if s.blk.idx + 1 = s.blk.n then setFlag (clearFlag s.status .busy) .blkDone else s.status } := by
  unfold coreStep sampleStep
  by_cases h : s.blk.idx + 1 = s.blk.n
  · simp only [if_pos h]
    rfl
  · simp only [if_neg h]
    rfl

theorem coreStep_mem (s : State) :
    (coreStep s).mem = (harmProcess s).2.write (obufBase + s.blk.idx) (sampleValue (nextNoise s) s) := by
  rw [coreStep_eq]

theorem coreStep_mem_wf {s : State} (hs : s.mem.wf = true) : (coreStep s).mem.wf = true := by
  rw [coreStep_mem]
  exact Memory.write_wf _ _ (harmProcess_wf s hs)

theorem StepEffect.mem_wf {s t : State} (h : StepEffect s t) (hs : s.mem.wf = true) : t.mem.wf = true := by
  cases h with
  | passed => exact hs
  | sample rest => exact coreStep_mem_wf (s := s.withPort rest) hs
  | written rest h => exact h.mem_wf hs
  | read rest a => rw [(busRead_frame a _).1]; exact hs
  | reset => exact resetState_mem_wf s.conf

/-- Settles O38: the form by the effect of the step, equality by the reads. -/
theorem stepKeepsCanonicalMemory : Obligations.StepKeepsCanonicalMemory := by
  refine ⟨fun s t hs hstep => ?_, fun m n hm hn => Memory.eq_of_read_eq hm hn⟩
  obtain ⟨u, hu, heffect⟩ := step_effect s
  obtain rfl : u = t := Host.Outcome.next.inj (hu.symm.trans hstep)
  exact heffect.mem_wf hs

end Sys2Proof.Machine
end

section
/-! PROOF. The running block (47_block.md R233 to R239): the set-up, one sample, the samples until the end of the block, and what the host
can change meanwhile. -/

namespace Sys2Proof.Machine

/-! ### The set-up -/

theorem exec_blkRun (s : State) : exec .blkRun s = .next (blkSetup s) := rfl

/-- `HARM.CFG` on raw parameters put into the `ARG` registers. -/
theorem exec_harmCfg_args (q : HarmParams) (s : State) :
    exec .harmCfg { s with arg := #v[q.count, q.basef, q.offset, q.center, q.width, q.master] } =
      .next { harmConfigure q s with arg := #v[q.count, q.basef, q.offset, q.center, q.width, q.master] } := rfl

/-- `MOOG.CFG` on a frequency and a resonance put into the `ARG` registers. -/
theorem exec_moogCfg_args (freqHz res a2 a3 a4 a5 : Num64) (s : State) :
    exec .moogCfg { s with arg := #v[freqHz, res, a2, a3, a4, a5] } =
      .next ({ s with
        moog := moogConfigure s.srate s.moog freqHz res
        arg := #v[freqHz, res, a2, a3, a4, a5] }.markConfigured .moog) := rfl

/-- Settles O23: `blkSetup` is the two configurations on the clamped snapshot; they write no phase and no cell of the ladder. -/
theorem blkRunSetUp : Obligations.BlkRunSetUp := by
  refine ⟨by decide, fun s => ?_⟩
  obtain ⟨ps, hps⟩ : ∃ ps, snapshot s.conf s.p = ps := ⟨_, rfl⟩
  refine ⟨ps, _, _, fun i => hps ▸ snapshot_getElem s.conf s.p i,
    exec_harmCfg_args (blkHarmParams s.basehz ps) { s with ps := ps }, exec_moogCfg_args _ _ _ _ _ _ _, ?_, ?_,
    ⟨rfl, rfl, rfl, rfl⟩, fun _ h hh => ?_⟩
  · rw [exec_blkRun, blkSetup, hps]
    rfl
  · exact BitVec.or_assoc s.cfgvalid _ _
  · refine read_harmFill_other fun k _ => ?_
    unfold harmIncBase harmAmpBase
    omega

/-! ### One sample -/

theorem coreStep_blk (s : State) : (coreStep s).blk = { s.blk with idx := s.blk.idx + 1 } := by
  rw [coreStep_eq]

/-- A sample that is not the last leaves the flags. -/
theorem coreStep_busy_of_ne {s : State} (h : s.blk.idx + 1 ≠ s.blk.n) : (coreStep s).busy = s.busy := by
  rw [coreStep_eq, if_neg h]
  rfl

/-- The last sample ends the block (47_block.md R236). -/
theorem coreStep_last {s : State} (h : s.blk.idx + 1 = s.blk.n) :
    (coreStep s).busy = false ∧ (coreStep s).status.getLsbD 4 = true := by
  have hstatus : (coreStep s).status = (blkFinish s).status := by
    rw [coreStep_eq, if_pos h, blkFinish_status]
  refine ⟨?_, ?_⟩
  · rw [State.busy, State.flagSet, hstatus]
    exact busy_blkFinish s
  · rw [hstatus, blkFinish_status, setFlag, BitVec.getLsbD_or]
    exact Bool.or_true _

/-- A waiting host leaves the step to the core (20_memory.md R74). -/
theorem step_of_hostWaits {s : State} (hwait : HostWaits s) (hbusy : s.busy = true) : step s = .next (coreStep s) := by
  obtain hport | ⟨m, rest, hport, hheld⟩ := hwait
  · rw [step, machineStep, hport]
    simp only [if_pos hbusy]
  · rw [step_of_busy hbusy hport, busyMove_of_held rest s hheld]

/-- A unit with its `CFGVALID` bit set is configured. -/
theorem configured_of_bit {s : State} {u : DspUnit} {m : Word32} (h : (m &&& 0x7FF#32).getLsbD u.code.toNat = true) :
    ({ s with cfgvalid := s.cfgvalid ||| m } : State).configured u = true := by
  rw [BitVec.getLsbD_and, Bool.and_eq_true] at h
  obtain ⟨hbit, hmask⟩ := h
  rw [configured_eq, hmask, BitVec.getLsbD_or, hbit]
  simp

/-- The ladder's `PROC` with its input in `X`. -/
theorem exec_moogProc_withX (sat : Bool) (x : Num64) {s : State} (h : s.configured .moog = true) :
    exec (.moogProc sat false) { s with x := x } =
      .next { s with x := x, moog := (moogProcess sat s.moog x).2, y := (moogProcess sat s.moog x).1 } :=
  exec_filterProc_withX .moog sat x h

/-- Settles O46: the bank and the ladder work as their commands do on configured units, the noise as its own. It stands in `Block`
because `sampleStep` itself is the model's function. -/
theorem Block.sampleStep : Obligations.SampleStep := by
  intro s hinv hbusy hport
  have hwf := harmProcess_wf s hinv.memory.wf
  have hharm : exec .harmProc { s with cfgvalid := s.cfgvalid ||| 0x200#32 } =
      .next { s with cfgvalid := s.cfgvalid ||| 0x200#32, mem := (harmProcess s).2, y := (harmProcess s).1 } :=
    exec_of_configured (exec_harmProc _) (configured_of_bit (u := .harm) (by decide))
  have hmoog := exec_moogProc_withX s.blk.sat (harmProcess s).1
    (configured_of_bit (s := s) (u := .moog) (m := 0x080#32) (by decide))
  have hnoise : exec .noiseProc s = .next { s with y := nextNoise s, noiseIdx := s.noiseIdx + 1 } := rfl
  refine ⟨_, _, _, (harmProcess s).2.write (obufBase + s.blk.idx) (sampleValue (nextNoise s) s), hharm, hmoog, hnoise, ?_,
    Memory.write_wf _ _ hwf, Memory.read_write_same _ _ hwf, fun a ha => Memory.read_write_other _ _ ha⟩
  rw [step_of_hostWaits (.inl hport) hbusy, coreStep_eq]
  rfl

/-! ### The samples of a block -/

theorem Inv.coreStep {s : State} (hs : Inv s) (hbusy : s.busy = true) : Inv (coreStep s) :=
  (inv_iff_facts _).2 (((inv_iff_facts s).1 hs).coreStep hbusy)

/-- `s` after `k` samples of its block. -/
def afterSamples (k : Nat) (s : State) : State := coreStep^[k] s

theorem afterSamples_succ (k : Nat) (s : State) : afterSamples (k + 1) s = coreStep (afterSamples k s) :=
  Function.iterate_succ_apply' ..

theorem afterSamples_blk (k : Nat) (s : State) : (afterSamples k s).blk = { s.blk with idx := s.blk.idx + k } := by
  induction k with
  | zero => rfl
  | succ k ih => rw [afterSamples_succ, coreStep_blk, ih, Nat.add_assoc]

theorem afterSamples_port (k : Nat) (s : State) : (afterSamples k s).port = s.port := by
  induction k with
  | zero => rfl
  | succ k ih => rw [afterSamples_succ, coreStep_port, ih]

/-- One more step at the end of a run. -/
theorem runSteps_succ {k : Nat} {s t : State} (hrun : runSteps k s = .next t) : runSteps (k + 1) s = step t := by
  induction k generalizing s with
  | zero =>
    cases hrun
    rw [runSteps]
    cases hstep : step t <;> rfl
  | succ k ih =>
    rw [runSteps] at hrun ⊢
    cases hstep : step s with
    | next u => rw [hstep] at hrun; exact ih hrun
    | fault f => rw [hstep] at hrun; cases hrun
    | refused r => rw [hstep] at hrun; cases hrun

section Run

variable {s : State} (hinv : Inv s) (hbusy : s.busy = true)
include hinv hbusy

theorem afterSamples_runs {k : Nat} (hk : k < s.blk.n - s.blk.idx) : Inv (afterSamples k s) ∧ (afterSamples k s).busy = true := by
  induction k with
  | zero => exact ⟨hinv, hbusy⟩
  | succ k ih =>
    obtain ⟨hinv', hbusy'⟩ := ih (by omega)
    rw [afterSamples_succ]
    refine ⟨hinv'.coreStep hbusy', (coreStep_busy_of_ne ?_).trans hbusy'⟩
    rw [afterSamples_blk]
    simp only
    omega

theorem runSteps_eq_afterSamples (hwait : HostWaits s) {k : Nat} (hk : k ≤ s.blk.n - s.blk.idx) :
    runSteps k s = .next (afterSamples k s) := by
  induction k with
  | zero => rfl
  | succ k ih =>
    have hwait' : HostWaits (afterSamples k s) := by rw [HostWaits, afterSamples_port]; exact hwait
    rw [runSteps_succ (ih (by omega)), step_of_hostWaits hwait' (afterSamples_runs hinv hbusy (by omega)).2, afterSamples_succ]

/-- The block ends with its last sample. -/
theorem afterSamples_last : (afterSamples (s.blk.n - s.blk.idx) s).busy = false ∧
    (afterSamples (s.blk.n - s.blk.idx) s).status.getLsbD 4 = true := by
  obtain ⟨hidx, -⟩ := hinv.block hbusy
  obtain ⟨k, hk⟩ := Nat.exists_eq_succ_of_ne_zero (Nat.sub_ne_zero_of_lt hidx)
  rw [hk, afterSamples_succ]
  refine coreStep_last ?_
  rw [afterSamples_blk]
  simp only
  omega

end Run

/-! ### The end of a block -/

theorem Written.port {s t : State} (h : Written s t) : t.port = s.port := by
  cases h with
  | refused | acknowledged => rfl
  | command h => exact h.keepsHost.port
  | stored a v l => exact (writeLoc_frame a v s l).2

/-- While no block runs the next move is used up, whatever it is. -/
theorem step_port_of_idle {s : State} {m : HostMove} {rest : List HostMove} (hbusy : s.busy = false) (hport : s.port = m :: rest) :
    ∃ t, step s = .next t ∧ t.port = rest := by
  rw [step_of_idle hbusy hport]
  cases m with
  | write a v =>
    obtain ⟨t, hw, h⟩ := busWrite_written a v (s.withPort rest)
    exact ⟨t, hw, h.port⟩
  | read a => exact ⟨_, rfl, (busRead_frame a (s.withPort rest)).2⟩
  | idle | waitBlk | reset => exact ⟨_, rfl, rfl⟩

/-- Settles O47: the remaining samples one by one, then the held move. -/
theorem blockTerminates : Obligations.BlockTerminates := by
  intro s hinv hbusy hwait
  refine ⟨fun k hk => ⟨afterSamples k s, runSteps_eq_afterSamples hinv hbusy hwait hk.le, (afterSamples_runs hinv hbusy hk).2,
    afterSamples_port k s⟩, ?_⟩
  obtain ⟨hidx, -⟩ := hinv.block hbusy
  obtain ⟨hidle, hdone⟩ := afterSamples_last hinv hbusy
  refine ⟨_, runSteps_eq_afterSamples hinv hbusy hwait le_rfl, hidle, hdone, ?_, afterSamples_port _ s, fun m rest hport => ?_⟩
  · rw [afterSamples_blk]
    exact Nat.add_sub_cancel' hidx.le
  · exact step_port_of_idle hidle ((afterSamples_port _ s).trans hport)

/-! ### The output buffer -/

/-- The sample step writes its sample into its cell (47_block.md R235). -/
theorem coreStep_obuf_same {s : State} (hs : s.mem.wf = true) :
    (coreStep s).mem.obuf s.blk.idx = sampleValue (nextNoise s) s := by
  rw [Memory.obuf, coreStep_mem]
  exact Memory.read_write_same _ _ (harmProcess_wf s hs)

/-- The other cells are neither the sample's nor the bank's. -/
theorem coreStep_obuf_other {s : State} (hinv : Inv s) {j : Nat} (hj : j ≠ s.blk.idx) :
    (coreStep s).mem.obuf j = s.mem.obuf j := by
  have hbank := harmProcess_sameOutput (s.conf.wellFormed_iff_legal.1 hinv.conf) hinv.bank
  rw [Memory.obuf, coreStep_mem, Memory.read_write_other _ _ (by omega)]
  exact hbank _ (Nat.le_add_right _ _)

/-- After `k` samples each of their cells holds its sample, and every other cell is as before. -/
theorem afterSamples_obuf {s : State} (hinv : Inv s) (hbusy : s.busy = true) {k : Nat} (hk : k ≤ s.blk.n - s.blk.idx) :
    (∀ i < k, (afterSamples k s).mem.obuf (s.blk.idx + i) = sampleValue (nextNoise (afterSamples i s)) (afterSamples i s)) ∧
      ∀ j, j < s.blk.idx ∨ s.blk.idx + k ≤ j → (afterSamples k s).mem.obuf j = s.mem.obuf j := by
  induction k with
  | zero => exact ⟨fun i hi => absurd hi (Nat.not_lt_zero i), fun _ _ => rfl⟩
  | succ k ih =>
    obtain ⟨hsamples, hothers⟩ := ih (by omega)
    have hinv' := (afterSamples_runs hinv hbusy (k := k) (by omega)).1
    have hidx : (afterSamples k s).blk.idx = s.blk.idx + k := by rw [afterSamples_blk]
    rw [afterSamples_succ]
    refine ⟨fun i hi => ?_, fun j hj => ?_⟩
    · obtain hlt | rfl := Nat.lt_succ_iff_lt_or_eq.1 hi
      · rw [coreStep_obuf_other hinv' (by omega), hsamples i hlt]
      · rw [← hidx, coreStep_obuf_same hinv'.memory.wf]
    · rw [coreStep_obuf_other hinv' (by omega), hothers j (by omega)]

/-- Settles O48. -/
theorem blockFillsBufferInOrder : Obligations.BlockFillsBufferInOrder := by
  intro s hinv hbusy hwait
  obtain ⟨hidx, -⟩ := hinv.block hbusy
  obtain ⟨hsamples, hothers⟩ := afterSamples_obuf hinv hbusy le_rfl
  refine ⟨_, runSteps_eq_afterSamples hinv hbusy hwait le_rfl, fun k hk => ?_, fun j hj => hothers j (by omega)⟩
  refine ⟨_, runSteps_eq_afterSamples hinv hbusy hwait hk.le, ?_⟩
  rw [Nat.add_assoc]
  exact hsamples k hk

/-! ### The host meanwhile -/

/-- The core computes from what it sees of the state and from nothing else (47_block.md R239). -/
theorem coreView_coreStep (s : State) : coreView (coreStep s) = coreView (coreStep (coreView s)) := by
  have hview : coreStep (coreView s) = (coreStep s).withView (Vector.replicate 9 F64.posZero) s.ps [] 0 :=
    coreStep_withView (Vector.replicate 9 F64.posZero) s.ps [] 0 s
  rw [hview, ← (coreStep_keepsView s).2]
  rfl

/-- The addresses of `P[0..8]` reach the parameters. -/
theorem lookup_of_isParamAddr {a : Addr} (h : isParamAddr a = true) : ∃ i, namedRegs.lookup a.toNat = some (.p i) := by
  obtain ⟨hlo, hhi⟩ := of_decide_eq_true h
  have ha : a = BitVec.ofNat 18 (0x00020 + (⟨a.toNat - 0x20, by omega⟩ : Fin 9)) := by
    rw [Nat.add_sub_cancel' hlo, BitVec.ofNat_toNat, BitVec.setWidth_eq]
  exact ⟨_, ha ▸ (lookup_param _).2⟩

/-- A read that the block lets through changes only the read data. -/
theorem coreView_busRead {a : Addr} {l : Loc} (h : namedRegs.lookup a.toNat = some l) (s : State) :
    coreView (busRead a s) = coreView s := by
  rw [busRead_of_locOf (locOf_of_lookup h)]
  rfl

/-- A move other than reset is invisible to the core, or it leaves the core its sample step (20_memory.md R66, R74). -/
theorem coreView_busyMove {s t : State} {m : HostMove} {rest : List HostMove} (hm : m ≠ .reset) (h : busyMove m rest s = .next t) :
    coreView t = coreView s ∨ coreView t = coreView (coreStep (coreView s)) := by
  cases m with
  | write a v =>
    simp only [busyMove] at h
    split at h
    · next hparam =>
      obtain ⟨i, hlookup⟩ := lookup_of_isParamAddr hparam
      cases (busWrite_of_rw v (s := s.withPort rest) (locOf_of_lookup hlookup) rfl).symm.trans h
      exact .inl rfl
    · cases h
      exact .inr (coreView_coreStep s)
  | read a =>
    simp only [busyMove] at h
    split at h
    · next hopen =>
      cases h
      refine .inl ?_
      obtain hparam | hstatus := Bool.or_eq_true_iff.1 hopen
      · obtain ⟨i, hlookup⟩ := lookup_of_isParamAddr hparam
        exact coreView_busRead hlookup (s.withPort rest)
      · have hlookup : namedRegs.lookup a.toNat = some .status := by rw [eq_of_beq hstatus]; decide
        exact coreView_busRead hlookup (s.withPort rest)
    · cases h
      exact .inr (coreView_coreStep s)
  | idle =>
    cases h
    exact .inr (coreView_coreStep (s.withPort rest))
  | waitBlk =>
    cases h
    exact .inr (coreView_coreStep s)
  | reset => exact absurd rfl hm

/-- Settles O49. -/
theorem hostCannotDisturbBlock : Obligations.HostCannotDisturbBlock := by
  intro s t hbusy hreset hstep
  cases hport : s.port with
  | nil =>
    cases (step_of_hostWaits (.inl hport) hbusy).symm.trans hstep
    exact .inr (coreView_coreStep s)
  | cons m rest =>
    exact coreView_busyMove (fun hm => hreset rest (hm ▸ hport)) ((step_of_busy hbusy hport).symm.trans hstep)

end Sys2Proof.Machine
end
